-- ==== Sys2Proof/Word.lean ====
section
/-! DEFINITION. The words of the serial links: a byte of a frame and a 16-bit word (cause words, enables, CRC). -/

namespace Sys2Proof

/-- One character of a frame (R166). -/
abbrev Byte := BitVec 8

/-- A 16-bit word: a cause word, an enable word (Table 10-5) or a CRC-16 (R167). -/
abbrev Word16 := BitVec 16

end Sys2Proof
end

