-- ==== Sys2Proof/Config.lean ====
section
/-! DEFINITION. The open choices of the specification: opaque constants, of which nothing can be proved. Each is applied to the
state's counter of free choices. Fixed figures of the part (the working configuration) are state (R176), not here. -/

namespace Sys2Proof.Config

/-- R43: where an interval turn's standing loss falls among the turn's reactions: 0 before the new slot is
activated, 1 after the activation and before the Reserve Unit's reaction, 2 after that reaction (log 5). -/
opaque lossPlace : Nat → Fin 3

/-- R71: whether the Sweep takes the interval turn before its own per-second event of the same second (log 6). -/
opaque sweepTurnFirst : Nat → Bool

/-- R153: whether the Reserve Unit's reaction to an inhibit's latching comes before the Dispatch Unit's (log 7). -/
opaque reserveFirst : Nat → Bool

end Sys2Proof.Config
end

