-- ==== Sys2Proof/Syntax.lean ====
section
/-! DEFINITION. The commands of the GLT-940: one constructor of `Instr` for each row of spec/opcode_table.json,
with the names (links, trains, stores, kinds, lines) their operands use. -/

namespace Sys2Proof

/-- The four links (R174 codes them 0..3 in this order). -/
inductive Port
  | pa | pb | mk | gr
  deriving DecidableEq, Repr

/-- The kinds of train and order (Table 11-1 note 1: COMPRESS is 0, EXPAND is 1). -/
inductive Kind
  | compress | expand
  deriving DecidableEq, Repr

/-- The heat stores S0..S2. -/
inductive Store
  | s0 | s1 | s2
  deriving DecidableEq, Repr

/-- The trains C0..C3 and X0..X3 (R174 codes them 0..7 in this order). -/
inductive Train
  | c0 | c1 | c2 | c3 | x0 | x1 | x2 | x3
  deriving DecidableEq, Repr

/-- The protective lines IN0..IN7 (Table 9-1, group 0). -/
inductive Protective
  | phi | plo | ts0 | ts1 | ts2 | est | gof | hrq
  deriving DecidableEq, Repr

/-- The sixteen discrete inputs: IN0..IN7 are the protective lines, IN8..IN15 the feedback lines FC0..FC3, FX0..FX3. -/
inductive Line
  | prot (p : Protective)
  | feedback (t : Train)
  deriving DecidableEq, Repr

/-- A request frame as it stands between the start byte and the CRC (Table 10-2), but for the request code, which
the command's row gives: the port it arrives on, its sequence, and the payload bytes. -/
structure Frame where
  port : Port
  seq : Byte
  payload : List Byte
  deriving DecidableEq, Repr

/-- A character on a link's RX line: a byte, or one received with a framing error (R166). -/
inductive RxChar
  | byte (b : Byte)
  | framingError
  deriving DecidableEq, Repr

/-- The commands. A request row carries its frame; the fields named in a row's comment are read from the payload
by R174, in that order (u1, u2, u4: unsigned of 1, 2, 4 bytes; s4: two's complement of 4 bytes). -/
inductive Instr
  /-- R149; no fields. -/
  | poll (f : Frame)
  /-- R133; train u1, reported state u1, power u4, mass u4. -/
  | trainReport (f : Frame)
  /-- R99; kind u1, setpoint u4, priority u1, store or ANY u1, train or ANY u1, budget u2. -/
  | submitService (f : Frame)
  /-- R101; id u2. -/
  | cancelService (f : Frame)
  /-- R116; id u2. -/
  | queryOrder (f : Frame)
  /-- R20; no fields. -/
  | queryInventory (f : Frame)
  /-- R19; mass u4, heat of S0, S1, S2 u4 each. -/
  | seedInventory (f : Frame)
  /-- R158; no fields. -/
  | hold (f : Frame)
  /-- R160; no fields. -/
  | resume (f : Frame)
  /-- R162; no fields. -/
  | resetTrip (f : Frame)
  /-- R141; train u1. -/
  | clearTrain (f : Frame)
  /-- R155; latch u1 (CHARGE_INHIBIT, DISCHARGE_INHIBIT, ISOLATED of S0, S1, S2). -/
  | clearInhibit (f : Frame)
  /-- R145; train u1. -/
  | handover (f : Frame)
  /-- R54; window u1, base interval u4, mask width u1, forbidden set u1, enable u1. -/
  | setWindow (f : Frame)
  /-- R177; code u1, index u1, value u4. -/
  | configWrite (f : Frame)
  /-- R178; code u1, index u1. -/
  | configRead (f : Frame)
  /-- R179; no fields. -/
  | storeConfig (f : Frame)
  /-- R179; the write of the image to non-volatile memory ends. -/
  | imageWriteComplete
  /-- R181; no fields. -/
  | startPlant (f : Frame)
  /-- R182; no fields. -/
  | restart (f : Frame)
  /-- R41, R42; interval u4, second u2. -/
  | syncTime (f : Frame)
  /-- R52; interval u4. -/
  | querySlot (f : Frame)
  /-- R49; interval u4, E s4, R_up u4, R_dn u4. -/
  | commit (f : Frame)
  /-- R50; interval u4, dE s4, dR_up s4, dR_dn s4. -/
  | adjust (f : Frame)
  /-- R51; interval u4. -/
  | withdraw (f : Frame)
  /-- R57; day u4. -/
  | openDay (f : Frame)
  /-- R58; offset u1, E s4, R_up u4, R_dn u4. -/
  | stage (f : Frame)
  /-- R59; CLOSE_DAY whose choice byte is ACCEPT. `f.payload` is what follows that byte: nothing, in a frame of the
  right length. -/
  | closeDayAccept (f : Frame)
  /-- R60; CLOSE_DAY whose choice byte is DISCARD. `f.payload` is what follows that byte. -/
  | closeDayDiscard (f : Frame)
  /-- R74; no fields. -/
  | querySweep (f : Frame)
  /-- R73; no fields. -/
  | sweepRestart (f : Frame)
  /-- R26; no fields. -/
  | queryHeadroom (f : Frame)
  /-- R78; activation s4. -/
  | activate (f : Frame)
  /-- R87; no fields. -/
  | queryActive (f : Frame)
  /-- R172; cause word u2. -/
  | ackCauses (f : Frame)
  /-- R173; enable word u2. -/
  | setCauseEnable (f : Frame)
  /-- R169; a well-formed frame of any code that the party sends again. -/
  | repeatFrame (code : Byte) (f : Frame)
  /-- R169; a well-formed frame whose code is not in the catalogue. -/
  | unknownRequest (code : Byte) (f : Frame)
  /-- R166; characters that arrive on a port one after the other, with no gap of 1 ms between them. -/
  | frameDiscarded (port : Port) (chars : List RxChar)
  /-- R166; the RX line of a port has carried no character for 1 ms. -/
  | rxIdleTimeout (port : Port)
  /-- R169; the transmission of a port's answer is complete. -/
  | answerSent (port : Port)
  /-- R4; the millisecond sample of WA and WB. -/
  | wellheadSample (wa wb : Bool)
  /-- R151; a sample of one discrete input, with the electrical level found (true is high). -/
  | qualifierSample (line : Line) (level : Bool)
  /-- R40. -/
  | timebaseSecond
  /-- R43. -/
  | intervalTurn
  /-- R10. -/
  | accountingSecond
  /-- R70. -/
  | sweepCycleComplete
  /-- R86. -/
  | placementWaitExpiry
  /-- R100; the order entry whose budget ends. -/
  | budgetEnd (entry : Fin 24)
  /-- R138. -/
  | startWindowExpiry (t : Train)
  /-- R140. -/
  | stopWindowExpiry (t : Train)
  /-- R137. -/
  | restartInhibitExpiry (t : Train)
  /-- R137, R139. -/
  | feedbackTimerExpiry (t : Train)
  /-- R163. -/
  | linkTimerExpiry (port : Port)
  /-- R180. -/
  | rstnLow
  /-- R180. -/
  | coldReset
  /-- R179. -/
  | lossOfPower
  deriving DecidableEq, Repr

end Sys2Proof
end

