-- ==== Sys2Proof/Decode.lean ====
section
/-! DEFINITION. The wire encodings: payload fields (R174) in both directions, the CRC-16 (R167), and `decodeTableWord`.
The opcode table gives no row any bits, so a word spells no command. -/

namespace Sys2Proof

/-- The command that a word spells by the table's bits: the table gives none. -/
def decodeTableWord (_nbits _w : Nat) : Option Instr := none

/-- A numeric field of a payload: 1, 2, 4 or 8 bytes, unsigned or two's complement (R174). -/
inductive Field
  | u1 | u2 | u4 | u8 | s2 | s4 | s8
  deriving DecidableEq, Repr

/-- Bytes of a field. -/
def Field.width : Field → Nat
  | .u1 => 1
  | .u2 | .s2 => 2
  | .u4 | .s4 => 4
  | .u8 | .s8 => 8

/-- Whether a field's range has negative values. -/
def Field.signed : Field → Bool
  | .u1 | .u2 | .u4 | .u8 => false
  | .s2 | .s4 | .s8 => true

/-- The number that bytes stand for, most significant first. -/
def bytesVal (bs : List Byte) : Nat := bs.foldl (fun acc b => acc * 256 + b.toNat) 0

/-- The low `n` bytes of a number, most significant first. -/
def natBytes : Nat → Nat → List Byte
  | 0, _ => []
  | n + 1, v => BitVec.ofNat 8 (v / 256 ^ n) :: natBytes n v

/-- An integer as a field's bytes, two's complement. -/
def Field.bytes (f : Field) (v : Int) : List Byte := natBytes f.width (v % (256 ^ f.width : Nat)).toNat

/-- The integer a field's bytes hold. -/
def Field.value (f : Field) (bs : List Byte) : Int :=
  if f.signed && 256 ^ f.width ≤ 2 * bytesVal bs then (bytesVal bs : Int) - (256 ^ f.width : Nat) else bytesVal bs

/-- The integers a field can hold. -/
def Field.fits (f : Field) (v : Int) : Prop :=
  if f.signed then -(256 ^ f.width : Nat) ≤ 2 * v ∧ 2 * v < (256 ^ f.width : Nat) else 0 ≤ v ∧ v < (256 ^ f.width : Nat)

/-- The fields of a payload, in order; none when the payload's length is not the sum of their widths (R174, R169). -/
def readFields : List Field → List Byte → Option (List Int)
  | [], [] => some []
  | [], _ :: _ => none
  | f :: fs, bs =>
    if bs.length < f.width then none
    else match readFields fs (bs.drop f.width) with
      | some vs => some (f.value (bs.take f.width) :: vs)
      | none => none

/-- The payload that spells the given field values, in order (R174). -/
def writeFields : List (Field × Int) → List Byte
  | [] => []
  | (f, v) :: rest => f.bytes v ++ writeFields rest

/-- One bit of the CRC register's work (R167: generator x^16 + x^12 + x^5 + 1). -/
def crcBit (r : Nat) : Nat := if r < 32768 then 2 * r else ((2 * r) ^^^ 0x11021)

/-- One byte taken into the CRC register, most significant bit first. -/
def crcByte (r : Nat) (b : Byte) : Nat :=
  crcBit (crcBit (crcBit (crcBit (crcBit (crcBit (crcBit (crcBit (r ^^^ (b.toNat * 256)))))))))

/-- The CRC-16 of R167: register 0xFFFF at the start, neither reflected nor inverted. -/
def crc16 (bs : List Byte) : Word16 := BitVec.ofNat 16 (bs.foldl crcByte 0xFFFF)

/-- The CRC of a request frame, over the sequence through the last payload byte (R167). -/
def Frame.crc (code : Byte) (f : Frame) : Word16 :=
  crc16 (f.seq :: code :: BitVec.ofNat 8 f.payload.length :: f.payload)

/-- A request frame's bytes on the line (Table 10-2). -/
def Frame.wire (code : Byte) (f : Frame) : List Byte :=
  0xA7#8 :: f.seq :: code :: BitVec.ofNat 8 f.payload.length :: f.payload ++ natBytes 2 (f.crc code).toNat

/-- The code and the frame of a request command (Table 10-4); none for a command that is no request. -/
def Instr.request? : Instr → Option (Byte × Frame)
  | .poll f => some (1#8, f)
  | .trainReport f => some (2#8, f)
  | .submitService f => some (3#8, f)
  | .cancelService f => some (4#8, f)
  | .queryOrder f => some (5#8, f)
  | .queryInventory f => some (6#8, f)
  | .seedInventory f => some (7#8, f)
  | .hold f => some (8#8, f)
  | .resume f => some (9#8, f)
  | .resetTrip f => some (10#8, f)
  | .clearTrain f => some (11#8, f)
  | .clearInhibit f => some (12#8, f)
  | .handover f => some (13#8, f)
  | .setWindow f => some (14#8, f)
  | .configWrite f => some (15#8, f)
  | .configRead f => some (16#8, f)
  | .storeConfig f => some (17#8, f)
  | .startPlant f => some (18#8, f)
  | .restart f => some (19#8, f)
  | .syncTime f => some (32#8, f)
  | .querySlot f => some (33#8, f)
  | .commit f => some (34#8, f)
  | .adjust f => some (35#8, f)
  | .withdraw f => some (36#8, f)
  | .openDay f => some (37#8, f)
  | .stage f => some (38#8, f)
  | .querySweep f => some (40#8, f)
  | .sweepRestart f => some (41#8, f)
  | .queryHeadroom f => some (42#8, f)
  | .activate f => some (48#8, f)
  | .queryActive f => some (49#8, f)
  | .ackCauses f => some (64#8, f)
  | .setCauseEnable f => some (65#8, f)
  | .closeDayAccept f => some (39#8, { f with payload := 0#8 :: f.payload })
  | .closeDayDiscard f => some (39#8, { f with payload := 1#8 :: f.payload })
  | .repeatFrame c f => some (c, f)
  | .unknownRequest c f => some (c, f)
  | .imageWriteComplete | .frameDiscarded _ _ | .rxIdleTimeout _ | .answerSent _ | .wellheadSample _ _
  | .qualifierSample _ _ | .timebaseSecond | .intervalTurn | .accountingSecond | .sweepCycleComplete
  | .placementWaitExpiry | .budgetEnd _ | .startWindowExpiry _ | .stopWindowExpiry _ | .restartInhibitExpiry _
  | .feedbackTimerExpiry _ | .linkTimerExpiry _ | .rstnLow | .coldReset | .lossOfPower => none

end Sys2Proof
end

