-- ==== Sys2Proof/Machine/Tables.lean ====
section
/-! DEFINITION. Tables with one entry for each store, kind, train, port or line, with their read and write, and the codes by which
R174 numbers those names. -/

namespace Sys2Proof.Machine

/-- One entry for each heat store. -/
structure PerStore (α : Type) where
  s0 : α
  s1 : α
  s2 : α
  deriving DecidableEq, Repr

/-- One entry for each kind. -/
structure PerKind (α : Type) where
  compress : α
  expand : α
  deriving DecidableEq, Repr

/-- One entry for each train. -/
structure PerTrain (α : Type) where
  c0 : α
  c1 : α
  c2 : α
  c3 : α
  x0 : α
  x1 : α
  x2 : α
  x3 : α
  deriving DecidableEq, Repr

/-- One entry for each link. -/
structure PerPort (α : Type) where
  ofPorts ::
  pa : α
  pb : α
  mk : α
  gr : α
  deriving DecidableEq, Repr

/-- One entry for each protective line. -/
structure PerProtective (α : Type) where
  phi : α
  plo : α
  ts0 : α
  ts1 : α
  ts2 : α
  est : α
  gof : α
  hrq : α
  deriving DecidableEq, Repr

/-- One entry for each discrete input: the protective lines (group 0) and the feedback lines (group 1). -/
structure PerLine (α : Type) where
  prot : PerProtective α
  feedback : PerTrain α
  deriving DecidableEq, Repr

variable {α : Type}

def PerStore.all (a : α) : PerStore α := ⟨a, a, a⟩
def PerStore.get (p : PerStore α) : Store → α
  | .s0 => p.s0
  | .s1 => p.s1
  | .s2 => p.s2
def PerStore.set (p : PerStore α) (k : Store) (a : α) : PerStore α :=
  match k with
  | .s0 => { p with s0 := a }
  | .s1 => { p with s1 := a }
  | .s2 => { p with s2 := a }

def PerKind.all (a : α) : PerKind α := ⟨a, a⟩
def PerKind.get (p : PerKind α) : Kind → α
  | .compress => p.compress
  | .expand => p.expand
def PerKind.set (p : PerKind α) (k : Kind) (a : α) : PerKind α :=
  match k with
  | .compress => { p with compress := a }
  | .expand => { p with expand := a }

def PerTrain.all (a : α) : PerTrain α := ⟨a, a, a, a, a, a, a, a⟩
def PerTrain.get (p : PerTrain α) : Train → α
  | .c0 => p.c0
  | .c1 => p.c1
  | .c2 => p.c2
  | .c3 => p.c3
  | .x0 => p.x0
  | .x1 => p.x1
  | .x2 => p.x2
  | .x3 => p.x3
def PerTrain.set (p : PerTrain α) (k : Train) (a : α) : PerTrain α :=
  match k with
  | .c0 => { p with c0 := a }
  | .c1 => { p with c1 := a }
  | .c2 => { p with c2 := a }
  | .c3 => { p with c3 := a }
  | .x0 => { p with x0 := a }
  | .x1 => { p with x1 := a }
  | .x2 => { p with x2 := a }
  | .x3 => { p with x3 := a }

def PerPort.all (a : α) : PerPort α := ⟨a, a, a, a⟩
def PerPort.get (p : PerPort α) : Port → α
  | .pa => p.pa
  | .pb => p.pb
  | .mk => p.mk
  | .gr => p.gr
def PerPort.set (p : PerPort α) (k : Port) (a : α) : PerPort α :=
  match k with
  | .pa => { p with pa := a }
  | .pb => { p with pb := a }
  | .mk => { p with mk := a }
  | .gr => { p with gr := a }

def PerProtective.all (a : α) : PerProtective α := ⟨a, a, a, a, a, a, a, a⟩
def PerProtective.get (p : PerProtective α) : Protective → α
  | .phi => p.phi
  | .plo => p.plo
  | .ts0 => p.ts0
  | .ts1 => p.ts1
  | .ts2 => p.ts2
  | .est => p.est
  | .gof => p.gof
  | .hrq => p.hrq
def PerProtective.set (p : PerProtective α) (k : Protective) (a : α) : PerProtective α :=
  match k with
  | .phi => { p with phi := a }
  | .plo => { p with plo := a }
  | .ts0 => { p with ts0 := a }
  | .ts1 => { p with ts1 := a }
  | .ts2 => { p with ts2 := a }
  | .est => { p with est := a }
  | .gof => { p with gof := a }
  | .hrq => { p with hrq := a }

def PerLine.all (a : α) : PerLine α := ⟨.all a, .all a⟩
def PerLine.get (p : PerLine α) : Line → α
  | .prot k => p.prot.get k
  | .feedback t => p.feedback.get t
def PerLine.set (p : PerLine α) (k : Line) (a : α) : PerLine α :=
  match k with
  | .prot j => { p with prot := p.prot.set j a }
  | .feedback t => { p with feedback := p.feedback.set t a }

/-- The value of every entry, made from the entry's name. -/
def PerTrain.of (f : Train → α) : PerTrain α :=
  ⟨f .c0, f .c1, f .c2, f .c3, f .x0, f .x1, f .x2, f .x3⟩
def PerStore.of (f : Store → α) : PerStore α := ⟨f .s0, f .s1, f .s2⟩
def PerPort.of (f : Port → α) : PerPort α := ⟨f .pa, f .pb, f .mk, f .gr⟩

/-- The trains in the order C0..C3, X0..X3 (R105, R149). -/
def trainList : List Train := [.c0, .c1, .c2, .c3, .x0, .x1, .x2, .x3]
def storeList : List Store := [.s0, .s1, .s2]
def portList : List Port := [.pa, .pb, .mk, .gr]

/-- The gates in the order S0 draw, S0 fill, S1 draw, S1 fill, S2 draw, S2 fill (R105, R125): the draw gate of a
store serves EXPAND orders, the fill gate COMPRESS orders. -/
def gateList : List (Store × Kind) :=
  [(.s0, .expand), (.s0, .compress), (.s1, .expand), (.s1, .compress), (.s2, .expand), (.s2, .compress)]

def trainKind : Train → Kind
  | .c0 | .c1 | .c2 | .c3 => .compress
  | .x0 | .x1 | .x2 | .x3 => .expand

/-- Trains of a kind, lowest-numbered first. -/
def trainsOf : Kind → List Train
  | .compress => [.c0, .c1, .c2, .c3]
  | .expand => [.x0, .x1, .x2, .x3]

/-- R174: trains are coded 0..3 for C0..C3 and 4..7 for X0..X3. -/
def trainCode : Train → Nat
  | .c0 => 0 | .c1 => 1 | .c2 => 2 | .c3 => 3 | .x0 => 4 | .x1 => 5 | .x2 => 6 | .x3 => 7
def trainOf? (n : Int) : Option Train :=
  match n with
  | 0 => some .c0 | 1 => some .c1 | 2 => some .c2 | 3 => some .c3
  | 4 => some .x0 | 5 => some .x1 | 6 => some .x2 | 7 => some .x3
  | _ => none

/-- R174: stores are coded 0..2. -/
def storeCode : Store → Nat
  | .s0 => 0 | .s1 => 1 | .s2 => 2
def storeOf? (n : Int) : Option Store :=
  match n with
  | 0 => some .s0 | 1 => some .s1 | 2 => some .s2
  | _ => none

/-- R174: links are coded 0..3 for PA, PB, MK and GR. -/
def portCode : Port → Nat
  | .pa => 0 | .pb => 1 | .mk => 2 | .gr => 3
def portOf? (n : Int) : Option Port :=
  match n with
  | 0 => some .pa | 1 => some .pb | 2 => some .mk | 3 => some .gr
  | _ => none

/-- Table 11-1 note 1: kind index 0 is COMPRESS and 1 is EXPAND. -/
def kindCode : Kind → Nat
  | .compress => 0 | .expand => 1
def kindOf? (n : Int) : Option Kind :=
  match n with
  | 0 => some .compress | 1 => some .expand
  | _ => none

/-- Table 9-1: IN0..IN15. -/
def lineOf? (n : Int) : Option Line :=
  match n with
  | 0 => some (.prot .phi) | 1 => some (.prot .plo) | 2 => some (.prot .ts0) | 3 => some (.prot .ts1)
  | 4 => some (.prot .ts2) | 5 => some (.prot .est) | 6 => some (.prot .gof) | 7 => some (.prot .hrq)
  | 8 => some (.feedback .c0) | 9 => some (.feedback .c1) | 10 => some (.feedback .c2) | 11 => some (.feedback .c3)
  | 12 => some (.feedback .x0) | 13 => some (.feedback .x1) | 14 => some (.feedback .x2) | 15 => some (.feedback .x3)
  | _ => none

/-- The other plant link; a market or grid link has none. -/
def otherPlant : Port → Option Port
  | .pa => some .pb
  | .pb => some .pa
  | .mk | .gr => none

/-- The plant links. -/
def isPlant : Port → Bool
  | .pa | .pb => true
  | .mk | .gr => false

/-- A set of trains, stores or quantities as a mask, bit `n` for the member of position `n` (R174). -/
def maskOf : List Bool → Nat
  | [] => 0
  | b :: bs => (if b then 1 else 0) + 2 * maskOf bs

end Sys2Proof.Machine
end

