-- ==== Sys2Proof/Machine/Configuration.lean ====
section
/-! DEFINITION. The configuration items (11_configuration_image_and_plant_start.md, Table 11-1): their record, defaults, ranges, reading and writing
by code and index, the start checks of Table 11-2, and the bytes over which the image's CRC is formed. -/

namespace Sys2Proof.Machine

/-- A train's owner (Table 8-1). -/
inductive Owner
  | pa | pb | nobody
  deriving DecidableEq, Repr

/-- A qualifier's mode (R151). -/
inductive QualifierMode
  | sync | q3 | q6
  deriving DecidableEq, Repr

/-- The items of Table 11-1, in its order. -/
structure Cfg where
  mFloor : Nat
  mCeil : Nat
  yd : Nat
  cc : Nat
  hd : Nat
  hc : Nat
  gramsPerCount : Nat
  window : Nat
  tAbs : Nat
  tRel : Nat
  derate : Nat
  capacity : PerStore Nat
  floor : PerStore Nat
  ceil : PerStore Nat
  hysteresis : PerStore Nat
  drawOutlets : PerStore Nat
  fillOutlets : PerStore Nat
  lossPpm : PerStore Nat
  rating : PerKind Nat
  minLoad : PerKind Nat
  owner : PerTrain Owner
  storeMask : PerTrain (PerStore Bool)
  holdBit : PerTrain Bool
  startWindow : PerKind Nat
  stopWindow : PerKind Nat
  restartInhibit : PerKind Nat
  feedbackWindow : Nat
  lead : Nat
  linkLength : PerPort Nat
  activeLow : PerLine Bool
  qualifier : PerLine QualifierMode
  enabled : PerLine Bool
  samplePeriod0 : Nat
  samplePeriod1 : Nat
  deriving DecidableEq, Repr

/-- The defaults of Table 11-1. -/
def Cfg.defaults : Cfg where
  mFloor := 0
  mCeil := 40000000
  yd := 100
  cc := 150
  hd := 90
  hc := 100
  gramsPerCount := 1000
  window := 60
  tAbs := 100
  tRel := 20
  derate := 10
  capacity := .all 0
  floor := .all 0
  ceil := .all 0
  hysteresis := .all 0
  drawOutlets := .all 1
  fillOutlets := .all 1
  lossPpm := .all 0
  rating := ⟨45000, 50000⟩
  minLoad := ⟨12000, 15000⟩
  owner := .all .nobody
  storeMask := .all (.all true)
  holdBit := .all false
  startWindow := .all 300
  stopWindow := .all 300
  restartInhibit := .all 600
  feedbackWindow := 10
  lead := 2
  linkLength := .all 30
  activeLow := .all false
  qualifier := .all .q6
  enabled := .all true
  samplePeriod0 := 9
  samplePeriod1 := 9

/-- The link a train's owner is, if any. -/
def Owner.port? : Owner → Option Port
  | .pa => some .pa
  | .pb => some .pb
  | .nobody => none

/-- The owner a plant link is. -/
def ownerOfPort : Port → Owner
  | .pa => .pa
  | .pb => .pb
  | .mk | .gr => .nobody

/-- Coding by position in Table 11-1's list PA, PB, NONE (R174). -/
def Owner.code : Owner → Nat
  | .pa => 0 | .pb => 1 | .nobody => 2
def ownerOf (n : Nat) : Owner :=
  match n with
  | 0 => .pa | 1 => .pb | _ => .nobody

def QualifierMode.code : QualifierMode → Nat
  | .sync => 0 | .q3 => 1 | .q6 => 2
def qualifierOf (n : Nat) : QualifierMode :=
  match n with
  | 0 => .sync | 1 => .q3 | _ => .q6

/-- The store mask's number: bit `n` stands for S n (Table 11-1 note 2). -/
def storeMaskCode (m : PerStore Bool) : Nat := maskOf [m.s0, m.s1, m.s2]
def storeMaskOf (n : Nat) : PerStore Bool := ⟨n.testBit 0, n.testBit 1, n.testBit 2⟩

/-- The number of indexes of an item (Table 11-1); an item without index takes index 0 (log 17). 0: no such code. -/
def itemIndexes (code : Nat) : Nat :=
  if 1 ≤ code ∧ code ≤ 11 then 1
  else if 12 ≤ code ∧ code ≤ 18 then 3
  else if code = 19 ∨ code = 20 ∨ code = 24 ∨ code = 25 ∨ code = 26 then 2
  else if 21 ≤ code ∧ code ≤ 23 then 8
  else if code = 27 ∨ code = 28 then 1
  else if code = 29 then 4
  else if 30 ≤ code ∧ code ≤ 32 then 16
  else if code = 33 then 2
  else 0

/-- The range of an item's value (Table 11-1). -/
def itemRange (code : Nat) : Nat × Nat :=
  match code with
  | 1 | 2 => (0, 40000000)
  | 3 => (20, 400)
  | 4 => (20, 600)
  | 5 | 6 => (0, 400)
  | 7 => (1, 1000000)
  | 8 => (10, 600)
  | 9 => (0, 1000000)
  | 10 => (0, 1000)
  | 11 => (0, 50)
  | 12 | 13 | 14 | 15 => (0, 4000000000)
  | 16 | 17 => (1, 4)
  | 18 => (0, 10000)
  | 19 => (1, 250000)
  | 20 => (0, 250000)
  | 21 => (0, 2)
  | 22 => (0, 7)
  | 23 => (0, 1)
  | 24 | 25 => (10, 1800)
  | 26 => (0, 3600)
  | 27 => (1, 60)
  | 28 => (0, 8)
  | 29 => (2, 255)
  | 30 => (0, 1)
  | 31 => (0, 2)
  | 32 => (0, 1)
  | 33 => (0, 63)
  | _ => (0, 0)

/-- The item and index exist. -/
def itemExists (code index : Nat) : Bool := index < itemIndexes code

/-- The value is in the item's range. -/
def itemInRange (code value : Nat) : Bool := (itemRange code).1 ≤ value && value ≤ (itemRange code).2

def storeAt (i : Nat) : Store := (storeOf? i).getD .s0
def kindAt (i : Nat) : Kind := (kindOf? i).getD .compress
def trainAt (i : Nat) : Train := (trainOf? i).getD .c0
def portAt (i : Nat) : Port := (portOf? i).getD .pa
def lineAt (i : Nat) : Line := (lineOf? i).getD (.prot .phi)

/-- The value an item holds, coded as Table 11-1 codes it (0 for a code not in the table). -/
def Cfg.read (c : Cfg) (code i : Nat) : Nat :=
  match code with
  | 1 => c.mFloor
  | 2 => c.mCeil
  | 3 => c.yd
  | 4 => c.cc
  | 5 => c.hd
  | 6 => c.hc
  | 7 => c.gramsPerCount
  | 8 => c.window
  | 9 => c.tAbs
  | 10 => c.tRel
  | 11 => c.derate
  | 12 => c.capacity.get (storeAt i)
  | 13 => c.floor.get (storeAt i)
  | 14 => c.ceil.get (storeAt i)
  | 15 => c.hysteresis.get (storeAt i)
  | 16 => c.drawOutlets.get (storeAt i)
  | 17 => c.fillOutlets.get (storeAt i)
  | 18 => c.lossPpm.get (storeAt i)
  | 19 => c.rating.get (kindAt i)
  | 20 => c.minLoad.get (kindAt i)
  | 21 => (c.owner.get (trainAt i)).code
  | 22 => storeMaskCode (c.storeMask.get (trainAt i))
  | 23 => (c.holdBit.get (trainAt i)).toNat
  | 24 => c.startWindow.get (kindAt i)
  | 25 => c.stopWindow.get (kindAt i)
  | 26 => c.restartInhibit.get (kindAt i)
  | 27 => c.feedbackWindow
  | 28 => c.lead
  | 29 => c.linkLength.get (portAt i)
  | 30 => (c.activeLow.get (lineAt i)).toNat
  | 31 => (c.qualifier.get (lineAt i)).code
  | 32 => (c.enabled.get (lineAt i)).toNat
  | 33 => if i = 0 then c.samplePeriod0 else c.samplePeriod1
  | _ => 0

/-- The items with one of them given a new value (R177). -/
def Cfg.write (c : Cfg) (code i v : Nat) : Cfg :=
  match code with
  | 1 => { c with mFloor := v }
  | 2 => { c with mCeil := v }
  | 3 => { c with yd := v }
  | 4 => { c with cc := v }
  | 5 => { c with hd := v }
  | 6 => { c with hc := v }
  | 7 => { c with gramsPerCount := v }
  | 8 => { c with window := v }
  | 9 => { c with tAbs := v }
  | 10 => { c with tRel := v }
  | 11 => { c with derate := v }
  | 12 => { c with capacity := c.capacity.set (storeAt i) v }
  | 13 => { c with floor := c.floor.set (storeAt i) v }
  | 14 => { c with ceil := c.ceil.set (storeAt i) v }
  | 15 => { c with hysteresis := c.hysteresis.set (storeAt i) v }
  | 16 => { c with drawOutlets := c.drawOutlets.set (storeAt i) v }
  | 17 => { c with fillOutlets := c.fillOutlets.set (storeAt i) v }
  | 18 => { c with lossPpm := c.lossPpm.set (storeAt i) v }
  | 19 => { c with rating := c.rating.set (kindAt i) v }
  | 20 => { c with minLoad := c.minLoad.set (kindAt i) v }
  | 21 => { c with owner := c.owner.set (trainAt i) (ownerOf v) }
  | 22 => { c with storeMask := c.storeMask.set (trainAt i) (storeMaskOf v) }
  | 23 => { c with holdBit := c.holdBit.set (trainAt i) (v != 0) }
  | 24 => { c with startWindow := c.startWindow.set (kindAt i) v }
  | 25 => { c with stopWindow := c.stopWindow.set (kindAt i) v }
  | 26 => { c with restartInhibit := c.restartInhibit.set (kindAt i) v }
  | 27 => { c with feedbackWindow := v }
  | 28 => { c with lead := v }
  | 29 => { c with linkLength := c.linkLength.set (portAt i) v }
  | 30 => { c with activeLow := c.activeLow.set (lineAt i) (v != 0) }
  | 31 => { c with qualifier := c.qualifier.set (lineAt i) (qualifierOf v) }
  | 32 => { c with enabled := c.enabled.set (lineAt i) (v != 0) }
  | 33 => if i = 0 then { c with samplePeriod0 := v } else { c with samplePeriod1 := v }
  | _ => c

/-- The outlets of a gate (R118): draw outlets serve EXPAND, fill outlets COMPRESS. -/
def Cfg.outlets (c : Cfg) (s : Store) (k : Kind) : Nat :=
  match k with
  | .expand => c.drawOutlets.get s
  | .compress => c.fillOutlets.get s

/-- A store mask holds a store. -/
def Cfg.maskHas (c : Cfg) (t : Train) (s : Store) : Bool := (c.storeMask.get t).get s

/-- Table 11-2: the first failing check of START_PLANT with its index, or none when every check passes. -/
def startCheck (unvalidated : Bool) (c : Cfg) : Option (Nat × Option Nat) :=
  if unvalidated then some (1, none)
  else if ¬ c.mFloor < c.mCeil then some (2, none)
  else if ¬ 2 * c.minLoad.compress ≤ c.rating.compress then some (3, none)
  else if ¬ 2 * c.minLoad.expand ≤ c.rating.expand then some (4, none)
  else match storeList.find? fun s => !(c.floor.get s < c.ceil.get s && c.ceil.get s ≤ c.capacity.get s) with
  | some s => some (5, some (storeCode s))
  | none => match trainList.find? fun t => storeMaskCode (c.storeMask.get t) == 0 with
    | some t => some (6, some (trainCode t))
    | none => match [Kind.compress, .expand].find? fun k => (trainsOf k).all fun t => c.owner.get t == .nobody with
      | some k => some (7, some (kindCode k))
      | none => none

/-- Bytes of an item's value, by R174 on the item's range. -/
def itemField (code : Nat) : Field :=
  let top := (itemRange code).2
  if top < 256 then .u1 else if top < 65536 then .u2 else .u4

/-- The bytes of the copy over which the image's CRC is formed: every item in Table 11-1's order (log 18). -/
def Cfg.bytes (c : Cfg) : List Byte :=
  (List.range 33).flatMap fun k =>
    (List.range (itemIndexes (k + 1))).flatMap fun i => (itemField (k + 1)).bytes (c.read (k + 1) i : Nat)

/-- The CRC-16 of a configuration copy (R179). -/
def Cfg.crc (c : Cfg) : Word16 := crc16 c.bytes

end Sys2Proof.Machine
end

