-- ==== Sys2Proof/Machine/State.lean ====
section
/-! DEFINITION. The state of the GLT-940, block by block (00_scope.md Table 0-1), the reasons a step can stop, and the state right after
the cold reset of a part whose stored image is bad (R180). -/

namespace Sys2Proof.Machine

/-! ## Names the records use (coded by position where they are sent, R174) -/

/-- Table 1-1: which figure moves M. -/
inductive MassSource
  | wellhead | trainSum
  deriving DecidableEq, Repr

/-- Table 2-4: projection failure reasons, in reporting order. -/
inductive Reason
  | floor | heatEmpty | ceiling | heatFull | powerUp | powerDown | blackout
  deriving DecidableEq, Repr

/-- Table 3-3: slot states. -/
inductive SlotState
  | free | opened | firm | active | closed
  deriving DecidableEq, Repr

/-- Table 6-1: the origin of an order. -/
inductive Origin
  | book | grid | service
  deriving DecidableEq, Repr

/-- Table 6-1: the condition of an order record (R89). -/
inductive OrderState
  | free | ready | waiting | staged | current | retired
  deriving DecidableEq, Repr

/-- Table 6-1: why an order retired. -/
inductive RetireCause
  | retarget | budgetEnd | withdrawn | trip | inhibit | heatExhausted | heatFull | isolated
  deriving DecidableEq, Repr

/-- Table 8-1: train states. -/
inductive TrainState
  | offline | idle | starting | running | stopping | fault | lost
  deriving DecidableEq, Repr

/-- Table 8-1: the command posted. -/
inductive Command
  | run | stop | none
  deriving DecidableEq, Repr

/-- Table 8-1: a reported state. -/
inductive Reported
  | stopped | starting | running | stopping | unavailable
  deriving DecidableEq, Repr

/-- Table 8-1: a train's fault cause. -/
inductive FaultCause
  | startTimeout | stopTimeout | feedbackMismatch | reported
  deriving DecidableEq, Repr

/-- Table 9-4: plant modes. -/
inductive PlantMode
  | setup | normal | hold | trip
  deriving DecidableEq, Repr

/-- Table 9-6: the state of a link timer, with the seconds remaining while it runs. -/
inductive LinkTimer
  | notStarted
  | running (remaining : Nat)
  | expired
  deriving DecidableEq, Repr

/-- Table 10-1: where the receiver stands in a frame. -/
inductive RxState
  | hunt | skip | header | payload | check
  deriving DecidableEq, Repr

/-- Table 10-6: status codes, in code order. -/
inductive Status
  | ok | clamped | unknown | notPermitted | mode | badValue | notSeeded | notSynced | infeasible | tooLate
  | pageOpen | noPage | blackout | notOwner | tableFull | timeStep | revisionLimit | configInvalid
  deriving DecidableEq, Repr

/-- R178: the outcome of the last load at cold reset. -/
inductive LoadOutcome
  | image | defaults
  deriving DecidableEq, Repr

/-- Whether the part runs, is held by RSTN low (R180), or has no supply (R179). -/
inductive Supply
  | running | held | off
  deriving DecidableEq, Repr

/-! ## Records of the blocks -/

/-- Table 3-1. -/
structure Timebase where
  synced : Bool
  current : Nat
  second : Nat
  deriving DecidableEq, Repr

/-- Table 1-1. -/
structure Inventory where
  mass : Nat
  gramRem : Int
  seeded : Bool
  source : MassSource
  heat : PerStore Nat
  netCount : Int
  secondValid : Bool
  reference : Option (Bool × Bool)
  invalidStreak : Nat
  cleanStreak : Nat
  acc : PerTrain (PerStore Nat)
  lastStore : PerTrain (Option Store)
  sumWellhead : Int
  sumTrains : Int
  throughput : Int
  windowSeconds : Nat
  passStreak : Nat
  reconFault : Bool
  deriving DecidableEq, Repr

/-- Table 2-1. `eHeatD` and `eHeatC` are none when there is no heat limit (R23, R24). -/
structure Headroom where
  d : Nat
  c : Nat
  pxCap : Nat
  pcCap : Nat
  eAirD : Nat
  eHeatD : Option Nat
  dRaw : Nat
  eAirC : Nat
  eHeatC : Option Nat
  cRaw : Nat
  deriving DecidableEq, Repr

/-- The three values of a commitment: E in kWh, R_up and R_dn in kW. -/
structure Vals where
  e : Int
  up : Int
  dn : Int
  deriving DecidableEq, Repr

/-- The fields a slot has while ACTIVE or CLOSED (Table 3-2). -/
structure Effective where
  e : Int
  up : Int
  dn : Int
  curtailment : Int
  deliveredNet : Int
  activated : Int
  deriving DecidableEq, Repr

/-- Table 3-2. `risk` is the at-risk flag with its reason. -/
structure Slot where
  state : SlotState
  tag : Nat
  vals : Vals
  revisions : Nat
  risk : Option Reason
  eff : Option Effective
  deviation : Option Int
  deriving DecidableEq, Repr

/-- The day page (R57): the day number and the 96 entries. -/
structure Page where
  day : Nat
  entries : List Vals
  deriving DecidableEq, Repr

/-- Table 3-6. -/
structure Window where
  base : Nat
  width : Nat
  noDischarge : Bool
  noCharge : Bool
  noUp : Bool
  noDown : Bool
  enabled : Bool
  hit : Bool
  deriving DecidableEq, Repr

/-- The Book Unit's state: the slots, the page and the four windows (windows 0..3 in order). -/
structure Book where
  slots : Vector Slot 192
  page : Option Page
  windows : Vector Window 4
  deriving DecidableEq, Repr

/-- The carried state of a sweep cycle (Table 4-1, R28). -/
structure Carried where
  mass : Int
  heat : Int
  pool : PerStore Bool
  fTot : Nat
  kTot : Nat
  loss : Nat
  deriving DecidableEq, Repr

/-- Table 4-1. -/
structure Sweep where
  running : Bool
  base : Nat
  pointer : Nat
  carried : Option Carried
  cycles : Nat
  deriving DecidableEq, Repr

/-- A target: its kind and power above 0, or none for a target of 0 (Table 5-1 note 1). -/
abbrev Target := Option (Kind × Nat)

/-- Table 5-1. -/
structure Reserve where
  a : Int
  requested : Int
  bookTarget : Target
  gridTarget : Target
  withheld : Bool
  wait : Nat
  deriving DecidableEq, Repr

/-- An order table entry, 0..23. -/
abbrev Entry := Fin 24

/-- Table 6-1. A field that is not present in the record's state holds none (or its FREE value). -/
structure Order where
  state : OrderState
  id : Nat
  origin : Origin
  kind : Kind
  priority : Nat
  setpoint : Nat
  store : Store
  bound : Option Train
  owner : Option Port
  bars : PerTrain Bool
  lastTrain : Option Train
  budget : Option Nat
  train : Option Train
  cause : Option RetireCause
  created : Nat
  stagedAt : Option Nat
  currentAt : Option Nat
  retiredAt : Option Nat
  deriving DecidableEq, Repr

/-- Table 7-1; the outlets are the working configuration's. -/
structure Gate where
  isOpen : Bool
  holders : List Entry
  wait : List Entry
  deriving DecidableEq, Repr

/-- Table 8-1; id and kind are the record's place, owner and store mask the working configuration's. -/
structure TrainRec where
  state : TrainState
  current : Option Entry
  staged : Option Entry
  command : Command
  posted : Nat
  cap : Option Nat
  power : Nat
  reported : Option Reported
  fresh : Bool
  window : Option Nat
  inhibit : Option Nat
  feedback : Option Nat
  fault : Option FaultCause
  starts : Nat
  deriving DecidableEq, Repr

/-- A link's cause flags and enables (Table 10-1, Table 10-5). -/
structure Causes where
  flags : Word16
  enables : Word16
  deriving DecidableEq, Repr

/-- The Dispatch Unit, the Gate Unit and the Train Table, which work on one another's records, and the cause flags
they raise. `due` is the model's own: a dispatch event whose pass has not run (log 23). -/
structure Plant where
  trains : PerTrain TrainRec
  orders : Vector Order 24
  ready : List Entry
  heldBook : Target
  heldGrid : Target
  short : Bool
  placed : Bool
  nextId : Nat
  seqNo : Nat
  gates : PerStore (PerKind Gate)
  causes : PerPort Causes
  due : Bool
  deriving DecidableEq, Repr

/-- A discrete input's qualifier (R151). -/
structure Qualifier where
  active : Bool
  count : Nat
  deriving DecidableEq, Repr

/-- Table 9-7. -/
structure Protection where
  lines : PerLine Qualifier
  mode : PlantMode
  chargeInhibit : Bool
  dischargeInhibit : Bool
  isolated : PerStore Bool
  holdMask : PerTrain Bool
  latch : PerTrain Bool
  timers : PerPort LinkTimer
  deriving DecidableEq, Repr

/-- What identifies a frame in the repeat memory (R169). -/
structure FrameKey where
  seq : Byte
  code : Byte
  length : Nat
  crc : Word16
  deriving DecidableEq, Repr

/-- An answer frame (Table 10-3), but for its start byte, length and CRC, which its parts give. -/
structure Answer where
  seq : Byte
  code : Byte
  status : Status
  causes : Word16
  payload : List Byte
  deriving DecidableEq, Repr

/-- The answer state of a port: none outstanding; outstanding and not yet begun (STORE_CONFIG, R179); being sent. -/
inductive PortAnswer
  | none
  | awaited (key : FrameKey)
  | sending (key : FrameKey) (answer : Answer)
  deriving DecidableEq, Repr

/-- Table 10-1, but for the cause flags and enables (in `Plant`). -/
structure LinkPort where
  rx : RxState
  lineIdle : Bool
  buffer : List Byte
  answer : PortAnswer
  memory : Option (FrameKey × Answer)
  deriving DecidableEq, Repr

/-- The stored image: its items and CRC-16 (R179). -/
structure StoredImage where
  copy : Cfg
  crc : Word16
  deriving DecidableEq, Repr

/-- The Configuration Store (R176, R178, R179). `write` is the image write in progress: the copy and the port that
asked. -/
structure ConfigStore where
  cfg : Cfg
  unvalidated : Bool
  outcome : LoadOutcome
  image : StoredImage
  write : Option (Cfg × Port)
  deriving DecidableEq, Repr

/-- The output pins (Table 0-2): the permit lines, the trip output and the attention lines; true is asserted. -/
structure Pins where
  permits : PerTrain Bool
  tro : Bool
  attn : PerPort Bool
  deriving DecidableEq, Repr

/-- The whole machine. `pending` and `free` are the model's own (log 1, log 5). -/
structure State where
  pending : List Instr
  supply : Supply
  tb : Timebase
  inv : Inventory
  head : Headroom
  book : Book
  sweep : Sweep
  res : Reserve
  plant : Plant
  prot : Protection
  ports : PerPort LinkPort
  store : ConfigStore
  pins : Pins
  free : Nat
  deriving DecidableEq, Repr

/-- Reasons a step stops with a fault. The spec describes no stop of the part, so there is none. -/
inductive Fault
  deriving DecidableEq, Repr

/-- Reasons a command has no meaning. -/
inductive Refusal
  /-- A command the model has not reached; no command of this model answers so. Safe: the machine stops. -/
  | notModelled (mnemonic : String)
  deriving DecidableEq, Repr

/-! ## Reset values -/

def Vals.zero : Vals := ⟨0, 0, 0⟩

/-- Table 3-11: FREE, no fields. -/
def Slot.empty : Slot := ⟨.free, 0, .zero, 0, none, none, none⟩

/-- Table 3-6. -/
def Window.cleared : Window := ⟨0, 0, false, false, false, false, false, false⟩

/-- Table 6-6: FREE. -/
def Order.empty : Order :=
  ⟨.free, 0, .book, .compress, 0, 0, .s0, none, none, .all false, none, none, none, none, 0, none, none, none⟩

/-- Table 8-4, cold reset. -/
def TrainRec.cold : TrainRec :=
  ⟨.offline, none, none, .none, 0, none, 0, none, false, none, none, none, none, 0⟩

/-- R175: the receiver in SKIP, no answer outstanding, the repeat memory absent. -/
def LinkPort.cold : LinkPort := ⟨.skip, false, [], .none, none⟩

/-- The causes a link has (Table 10-5): a 1 in each bit that has a cause. -/
def causeBits : Port → Word16
  | .mk => 0x001F#16
  | .gr => 0x0017#16
  | .pa | .pb => 0x01FF#16

/-- R175: every enable set and every flag clear. -/
def Causes.cold (p : Port) : Causes := ⟨0#16, causeBits p⟩

/-- Table 1-7, cold reset. -/
def Inventory.cold : Inventory where
  mass := 0
  gramRem := 0
  seeded := false
  source := .wellhead
  heat := .all 0
  netCount := 0
  secondValid := true
  reference := none
  invalidStreak := 0
  cleanStreak := 0
  acc := .all (.all 0)
  lastStore := .all none
  sumWellhead := 0
  sumTrains := 0
  throughput := 0
  windowSeconds := 0
  passStreak := 0
  reconFault := false

/-- Table 3-11, cold reset. -/
def Book.cold : Book := ⟨Vector.replicate 192 .empty, none, Vector.replicate 4 .cleared⟩

/-- Table 4-3, cold reset. -/
def Sweep.cold : Sweep := ⟨false, 0, 0, none, 0⟩

/-- Table 5-4, cold reset. -/
def Reserve.cold : Reserve := ⟨0, 0, none, none, false, 0⟩

/-- Tables 6-6, 7-3, 8-4, cold reset; a fill gate is OPEN when its K_s is above 0 (R130). -/
def Plant.cold (c : Cfg) : Plant where
  trains := .all .cold
  orders := Vector.replicate 24 .empty
  ready := []
  heldBook := none
  heldGrid := none
  short := false
  placed := true
  nextId := 1
  seqNo := 0
  gates := .of fun s => ⟨⟨0 < c.ceil.get s, [], []⟩, ⟨false, [], []⟩⟩
  causes := .of .cold
  due := false

/-- Table 9-7, cold reset. -/
def Protection.cold : Protection where
  lines := .all ⟨false, 0⟩
  mode := .setup
  chargeInhibit := false
  dischargeInhibit := false
  isolated := .all false
  holdMask := .all false
  latch := .all false
  timers := .all .notStarted

/-- Permits and TRO deasserted, ATTN released (R175, R180). -/
def Pins.released : Pins := ⟨.all false, false, .all false⟩

/-- An image whose CRC does not match its items: section 11.6's new part, or a write cut short (R179, log 18). -/
def StoredImage.bad (c : Cfg) : StoredImage := ⟨c, c.crc ^^^ 1#16⟩

/-- The machine right after the cold reset of a part whose image is bad: the defaults are taken (R180). -/
def State.reset : State where
  pending := []
  supply := .running
  tb := ⟨false, 0, 0⟩
  inv := .cold
  head := ⟨0, 0, 0, 0, 0, some 0, 0, 6000000, some 0, 0⟩
  book := .cold
  sweep := .cold
  res := .cold
  plant := .cold .defaults
  prot := .cold
  ports := .all .cold
  store := ⟨.defaults, true, .defaults, .bad .defaults, none⟩
  pins := .released
  free := 0

end Sys2Proof.Machine
end

