-- ==== Sys2Proof/Machine/Flags.lean ====
section
/-! DEFINITION. Cause flags (10_links_requests_and_answers.md, R171..R173): which bit a cause has on a link, raising, acknowledging, enabling. -/

namespace Sys2Proof.Machine

/-- The causes of Table 10-5. -/
inductive Cause
  | newAtRisk | curtailed | recon | pageDropped | mode | actClamped | reserveShort | actEnded
  | trainFault | trip | hold | otherLinkLost | heatLimit | tableFull | inhibit | windowHit
  deriving DecidableEq, Repr

/-- A cause's bit on a link (Table 10-5); none where the link has no such cause. -/
def causeBit : Port → Cause → Option Nat
  | .mk, .newAtRisk => some 0
  | .mk, .curtailed => some 1
  | .mk, .recon => some 2
  | .mk, .pageDropped => some 3
  | .mk, .mode => some 4
  | .gr, .actClamped => some 0
  | .gr, .reserveShort => some 1
  | .gr, .actEnded => some 2
  | .gr, .mode => some 4
  | .pa, .trainFault | .pb, .trainFault => some 0
  | .pa, .trip | .pb, .trip => some 1
  | .pa, .hold | .pb, .hold => some 2
  | .pa, .otherLinkLost | .pb, .otherLinkLost => some 3
  | .pa, .heatLimit | .pb, .heatLimit => some 4
  | .pa, .recon | .pb, .recon => some 5
  | .pa, .tableFull | .pb, .tableFull => some 6
  | .pa, .inhibit | .pb, .inhibit => some 7
  | .pa, .windowHit | .pb, .windowHit => some 8
  | _, _ => none

/-- The word with a cause's bit alone. -/
def causeMask (p : Port) (c : Cause) : Word16 :=
  match causeBit p c with
  | some b => 1#16 <<< b
  | none => 0#16

/-- R171: a cause raised on a link sets the link's flag when its enable is set. -/
def Causes.raise (x : Causes) (mask : Word16) : Causes := { x with flags := x.flags ||| (mask &&& x.enables) }

/-- R172: every flag whose bit is 1 in the word is cleared. -/
def Causes.ack (x : Causes) (word : Word16) : Causes := { x with flags := x.flags &&& ~~~word }

/-- R173: the enables become the word, and every flag whose enable the word clears is cleared. -/
def Causes.enable (x : Causes) (word : Word16) : Causes := ⟨x.flags &&& word, word⟩

/-- A link's ATTN is asserted while at least one of its flags is set (R171). -/
def Causes.attn (x : Causes) : Bool := x.flags != 0#16

/-- A cause raised on one link. -/
def Plant.raise (p : Plant) (port : Port) (c : Cause) : Plant :=
  { p with causes := p.causes.set port ((p.causes.get port).raise (causeMask port c)) }

/-- A cause raised on each of several links. -/
def Plant.raiseOn (p : Plant) (ports : List Port) (c : Cause) : Plant := ports.foldl (fun q port => q.raise port c) p

def State.raise (s : State) (port : Port) (c : Cause) : State := { s with plant := s.plant.raise port c }
def State.raiseOn (s : State) (ports : List Port) (c : Cause) : State := { s with plant := s.plant.raiseOn ports c }

/-- RECON is raised on MK, PA and PB (R7, R8, R15, R19). -/
def State.raiseRecon (s : State) : State := s.raiseOn [.mk, .pa, .pb] .recon

end Sys2Proof.Machine
end

