-- ==== Sys2Proof/Machine/Projection.lean ====
section
/-! DEFINITION. The Projection Engine's arithmetic (02_headroom_and_projection_arithmetic.md): headroom, power capacities, the slot step, whole projections,
the acceptance rule and the effective values. -/

namespace Sys2Proof.Machine

/-- A quotient rounded up. -/
def divUp (a b : Nat) : Nat := (a + b - 1) / b

/-- A sum over the stores of a set. -/
def sumStores (set : PerStore Bool) (f : Store → Nat) : Nat :=
  (if set.s0 then f .s0 else 0) + (if set.s1 then f .s1 else 0) + (if set.s2 then f .s2 else 0)

/-- The stores that are not ISOLATED. -/
def openStores (isolated : PerStore Bool) : PerStore Bool := ⟨!isolated.s0, !isolated.s1, !isolated.s2⟩

/-- 16,777,215 kWh, at which headroom figures saturate (R25, R26). -/
def headroomTop : Nat := 16777215

/-- R23, R24, R25: the headroom and its intermediate figures; the capacities are kept. -/
def Headroom.recompute (h : Headroom) (cfg : Cfg) (inv : Inventory) (isolated : PerStore Bool) : Headroom :=
  let live := openStores isolated
  let eAirD := (inv.mass - cfg.mFloor) * cfg.yd / 1000
  let qDraw := sumStores live fun s => inv.heat.get s - cfg.floor.get s
  let eHeatD := if cfg.hd = 0 then none else some (qDraw / cfg.hd * cfg.yd / 1000)
  let dRaw := match eHeatD with
    | some x => min eAirD x
    | none => eAirD
  let eAirC := (cfg.mCeil - inv.mass) * cfg.cc / 1000
  let room := sumStores live fun s => cfg.ceil.get s - inv.heat.get s
  let eHeatC := if cfg.hc = 0 then none else some (room / cfg.hc * cfg.cc / 1000)
  let cRaw := match eHeatC with
    | some x => min eAirC x
    | none => eAirC
  let derated := fun x => if inv.reconFault then x * (100 - cfg.derate) / 100 else x
  { h with
    d := if inv.seeded then min (derated dRaw) headroomTop else 0
    c := if inv.seeded then min (derated cRaw) headroomTop else 0
    eAirD := eAirD, eHeatD := eHeatD, dRaw := dRaw, eAirC := eAirC, eHeatC := eHeatC, cRaw := cRaw }

/-- R22: the recomputation on a change of the inventory, isolation, RECON_FAULT or configuration. -/
def State.recomputeHeadroom (s : State) : State :=
  { s with head := s.head.recompute s.store.cfg s.inv s.prot.isolated }

/-- R27, R93: a train that is not OFFLINE, FAULT or LOST. -/
def available : TrainState → Bool
  | .offline | .fault | .lost => false
  | .idle | .starting | .running | .stopping => true

/-- R27: the power capacity of a kind. -/
def capacity (cfg : Cfg) (trains : PerTrain TrainRec) (inhibited : Bool) (k : Kind) : Nat :=
  if inhibited then 0
  else cfg.rating.get k * ((trainsOf k).filter fun t => available (trains.get t).state).length

/-! ## Blackout windows -/

/-- R53: an enabled window matches an interval when the two are equal above the low w bits. -/
def Window.covers (w : Window) (n : Nat) : Bool := w.enabled && n / 2 ^ w.width == w.base / 2 ^ w.width

/-- R53: the window forbids a quantity that the values hold. -/
def Window.forbids (w : Window) (v : Vals) : Bool :=
  (w.noDischarge && decide (0 < v.e)) || (w.noCharge && decide (v.e < 0)) || (w.noUp && decide (0 < v.up))
    || (w.noDown && decide (0 < v.dn))

/-- The window is enabled, matches the interval and forbids one of the values' quantities. -/
def Window.blocks (w : Window) (n : Nat) (v : Vals) : Bool := w.covers n && w.forbids v

/-- Some window blocks the values (R32, R48 check 7, R58). -/
def Book.blackout (b : Book) (n : Nat) (v : Vals) : Bool := b.windows.toList.any fun w => w.blocks n v

/-! ## The slot step -/

/-- R29: the mass an energy moves, rounded up. -/
def massFor (cfg : Cfg) (e : Int) : Nat :=
  if 0 < e then divUp (e.toNat * 1000) cfg.yd else divUp ((-e).toNat * 1000) cfg.cc

/-- R30: the failures of one extreme, as (FLOOR, HEAT_EMPTY, CEILING, HEAT_FULL). -/
def extremeFails (cfg : Cfg) (c : Carried) (x : Int) : Bool × Bool × Bool × Bool :=
  let m : Int := massFor cfg x
  if 0 < x then
    (decide (c.mass - m < cfg.mFloor), decide (0 < cfg.hd) && decide (c.heat - m * cfg.hd < c.fTot), false, false)
  else if x < 0 then
    (false, false, decide (cfg.mCeil < c.mass + m), decide (0 < cfg.hc) && decide (c.kTot < c.heat + m * cfg.hc))
  else (false, false, false, false)

/-- R30..R33: the first failure reason of a slot step, or none when it passes. `power` is the slot's 4E (R31, R35). -/
def stepReason (cfg : Cfg) (h : Headroom) (b : Book) (c : Carried) (n : Nat) (v : Vals) (power : Int) : Option Reason :=
  let hi := extremeFails cfg c (v.e + divUp v.up.toNat 4)
  let lo := extremeFails cfg c (v.e - divUp v.dn.toNat 4)
  if hi.1 || lo.1 then some .floor
  else if hi.2.1 || lo.2.1 then some .heatEmpty
  else if hi.2.2.1 || lo.2.2.1 then some .ceiling
  else if hi.2.2.2 || lo.2.2.2 then some .heatFull
  else if (h.pxCap : Int) < max 0 (power + v.up) then some .powerUp
  else if (h.pcCap : Int) < max 0 (v.dn - power) then some .powerDown
  else if b.blackout n v then some .blackout
  else none

/-- R34: a value raised to the lower bound first, then lowered to the upper. -/
def clampTo (lo hi x : Int) : Int := min (max x lo) hi

/-- R34: the carried state after the nominal energy, one interval's standing loss and the clamps. -/
def Carried.after (cfg : Cfg) (c : Carried) (e : Int) : Carried :=
  let m : Int := massFor cfg e
  let mass := if 0 < e then c.mass - m else if e < 0 then c.mass + m else c.mass
  let heat := if 0 < e then c.heat - m * cfg.hd else if e < 0 then c.heat + m * cfg.hc else c.heat
  let lost := if 0 < heat then heat * c.loss / 1000000 else 0
  { c with mass := clampTo cfg.mFloor cfg.mCeil mass, heat := clampTo c.fTot c.kTot (heat - lost) }

/-- R28: the carried state a projection begins from. -/
def State.startCarried (s : State) : Carried :=
  let pool := openStores s.prot.isolated
  let loss := fun st => if pool.get st then s.store.cfg.lossPpm.get st else 0
  { mass := s.inv.mass
    heat := sumStores pool s.inv.heat.get
    pool := pool
    fTot := sumStores pool s.store.cfg.floor.get
    kTot := sumStores pool s.store.cfg.ceil.get
    loss := max (loss .s0) (max (loss .s1) (loss .s2)) }

/-! ## The book as a projection reads it -/

/-- R45: the slot record that holds an interval: slot n mod 192. -/
def Book.slot (b : Book) (n : Nat) : Slot := b.slots[n % 192]'(Nat.mod_lt _ (by decide))

/-- The slot's tag is the interval, and it is not FREE. -/
def Slot.holds (x : Slot) (n : Nat) : Bool := x.state != .free && x.tag == n

/-- The committed values of an interval, zeros for an unmapped or FREE slot (R28, R48). -/
def Book.vals (b : Book) (n : Nat) : Vals := if (b.slot n).holds n then (b.slot n).vals else .zero

/-- R35: the active slot's remaining energy, rounded away from zero. -/
def remaining (e : Int) (second : Nat) : Int :=
  if 0 ≤ e then divUp (e.toNat * (900 - second)) 900 else -(divUp ((-e).toNat * (900 - second)) 900 : Nat)

/-- The active slot's effective values (zeros while no slot is active, R77). -/
def State.active (s : State) : Effective :=
  match s.tb.synced && (s.book.slot s.tb.current).holds s.tb.current, (s.book.slot s.tb.current).eff with
  | true, some x => x
  | _, _ => ⟨0, 0, 0, 0, 0, 0⟩

/-- R35: the values in force for the rest of the active slot's interval. -/
def State.activeVals (s : State) : Vals := ⟨remaining s.active.e s.tb.second, s.active.up, s.active.dn⟩

/-- `count` slot steps from interval `n` on, each with its interval and its failure reason. -/
def projectFrom (cfg : Cfg) (h : Headroom) (b : Book) (vals : Nat → Vals) :
    Nat → Nat → Carried → List (Nat × Option Reason)
  | 0, _, _ => []
  | k + 1, n, c =>
    let v := vals n
    (n, stepReason cfg h b c n v (4 * v.e)) :: projectFrom cfg h b vals k (n + 1) (c.after cfg v.e)

/-- R35: a whole projection, 192 steps from the active slot; `vals` gives the later slots' values. -/
def State.project (s : State) (vals : Nat → Vals) : List (Nat × Option Reason) :=
  let c := s.startCarried
  let v := s.activeVals
  let n := s.tb.current
  (n, stepReason s.store.cfg s.head s.book c n v (4 * s.active.e))
    :: projectFrom s.store.cfg s.head s.book vals 191 (n + 1) (c.after s.store.cfg v.e)

/-- R36: a change to a failing slot that only reduces it. -/
def reduced (old new : Vals) : Bool :=
  (new.e == 0 || (decide (0 < new.e) && decide (new.e ≤ old.e)) || (decide (new.e < 0) && decide (old.e ≤ new.e)))
    && decide (new.up ≤ old.up) && decide (new.dn ≤ old.dn)

/-- The values of an interval with changes laid over the book. -/
def withChanges (b : Book) (changes : List (Nat × Vals)) (n : Nat) : Vals :=
  match changes.find? fun x => x.1 == n with
  | some x => x.2
  | none => b.vals n

/-- R36: a slot of the "with" projection offends, set beside the same slot of the "without" projection. -/
def offends (b : Book) (changes : List (Nat × Vals)) (first : Nat) (x : (Nat × Option Reason) × (Nat × Option Reason)) :
    Option (Nat × Reason) :=
  match x.2.2 with
  | none => none
  | some r =>
    let n := x.2.1
    let changed := changes.any fun c => c.1 == n
    if decide (first ≤ n) && (x.1.2.isNone || (changed && !reduced (b.vals n) (withChanges b changes n))) then some (n, r)
    else none

/-- R36, R37: the first offending interval and its reason, or none when the change is accepted. `changes` holds the
changed slots alone; with none of them the change is accepted without projection. -/
def State.judge (s : State) (changes : List (Nat × Vals)) : Option (Nat × Reason) :=
  match changes with
  | [] => none
  | c :: cs =>
    let first := cs.foldl (fun m x => min m x.1) c.1
    ((s.project s.book.vals).zip (s.project (withChanges s.book changes))).findSome?
      (offends s.book changes first)

/-! ## Effective values -/

/-- R38, R39: the effective values and curtailment of a slot becoming active. -/
def State.effective (s : State) (n : Nat) (v : Vals) : Effective :=
  let ws := s.book.windows.toList.filter fun w => w.covers n
  let e0 := min (max v.e (-(s.head.c : Int))) s.head.d
  let e := if (ws.any (·.noDischarge) && decide (0 < e0)) || (ws.any (·.noCharge) && decide (e0 < 0)) then 0 else e0
  let up0 := min v.up (min (4 * ((s.head.d : Int) - max 0 e)) ((s.head.pxCap : Int) - max 0 (4 * e)))
  let dn0 := min v.dn (min (4 * ((s.head.c : Int) - max 0 (-e))) ((s.head.pcCap : Int) - max 0 (-4 * e)))
  { e := e
    up := if ws.any (·.noUp) then 0 else max 0 up0
    dn := if ws.any (·.noDown) then 0 else max 0 dn0
    curtailment := v.e - e
    deliveredNet := 0
    activated := 0 }

end Sys2Proof.Machine
end

