-- ==== Sys2Proof/Machine/Operands.lean ====
section
/-! DEFINITION. What the dispatch machinery reads and the plainest reads and writes of its records: the environment of a step, order, train and
gate records, list insertion by priority, and the choice of a best member. -/

namespace Sys2Proof.Machine

/-- What the Dispatch Unit, Gate Unit and Train Table read of the other blocks, as it stands in the step. -/
structure Env where
  cfg : Cfg
  mode : PlantMode
  chargeInhibit : Bool
  dischargeInhibit : Bool
  isolated : PerStore Bool
  live : PerPort Bool
  heat : PerStore Nat
  feedback : PerTrain Bool
  deriving DecidableEq, Repr

/-- Table 9-6 note 1: a link is live while its timer is not EXPIRED. -/
def LinkTimer.live (t : LinkTimer) : Bool := t != .expired

def State.env (s : State) : Env where
  cfg := s.store.cfg
  mode := s.prot.mode
  chargeInhibit := s.prot.chargeInhibit
  dischargeInhibit := s.prot.dischargeInhibit
  isolated := s.prot.isolated
  live := .of fun p => (s.prot.timers.get p).live
  heat := s.inv.heat
  feedback := .of fun t => (s.prot.lines.feedback.get t).active

/-- R99 note 1, R153: the inhibit of a kind. -/
def Env.inhibited (env : Env) : Kind → Bool
  | .compress => env.chargeInhibit
  | .expand => env.dischargeInhibit

/-! ## Records -/

/-- The 24 table entries in order. -/
def entryList : List Entry :=
  [0, 1, 2, 3, 4, 5, 6, 7, 8, 9, 10, 11, 12, 13, 14, 15, 16, 17, 18, 19, 20, 21, 22, 23]

def Plant.ord (p : Plant) (e : Entry) : Order := p.orders[e.val]
def Plant.setOrd (p : Plant) (e : Entry) (o : Order) : Plant := { p with orders := p.orders.set e.val o }
def Plant.modOrd (p : Plant) (e : Entry) (f : Order → Order) : Plant := p.setOrd e (f (p.ord e))
def Plant.train (p : Plant) (t : Train) : TrainRec := p.trains.get t
def Plant.modTrain (p : Plant) (t : Train) (f : TrainRec → TrainRec) : Plant :=
  { p with trains := p.trains.set t (f (p.trains.get t)) }
def Plant.gate (p : Plant) (g : Store × Kind) : Gate := (p.gates.get g.1).get g.2
def Plant.modGate (p : Plant) (g : Store × Kind) (f : Gate → Gate) : Plant :=
  { p with gates := p.gates.set g.1 ((p.gates.get g.1).set g.2 (f (p.gate g))) }

/-- R89: READY, WAITING, STAGED and CURRENT orders are live. -/
def OrderState.live : OrderState → Bool
  | .ready | .waiting | .staged | .current => true
  | .free | .retired => false

/-- Table 6-1 note 2: the gate an order uses. -/
def Order.gate (o : Order) : Store × Kind := (o.store, o.kind)

/-- An order of the schedule or the grid, which a retarget owns. -/
def Order.targeted (o : Order) : Bool := o.origin != .service

/-- Table 7-1 note 2: the outlets less the holders. -/
def Plant.freePermits (p : Plant) (cfg : Cfg) (g : Store × Kind) : Nat :=
  cfg.outlets g.1 g.2 - (p.gate g).holders.length

/-- A gate that can grant: OPEN with a free permit (R119). -/
def Plant.canGrant (p : Plant) (cfg : Cfg) (g : Store × Kind) : Bool :=
  (p.gate g).isOpen && decide (0 < p.freePermits cfg g)

/-! ## Lists in dispatch order -/

/-- R102, R121: after every member of the same or higher priority. -/
def insertTail (prio : Entry → Nat) (e : Entry) (l : List Entry) : List Entry :=
  l.takeWhile (fun x => decide (prio e ≤ prio x)) ++ e :: l.dropWhile (fun x => decide (prio e ≤ prio x))

/-- R102: before every member of the same priority. -/
def insertHead (prio : Entry → Nat) (e : Entry) (l : List Entry) : List Entry :=
  l.takeWhile (fun x => decide (prio e < prio x)) ++ e :: l.dropWhile (fun x => decide (prio e < prio x))

/-- The list without a member. -/
def without (e : Entry) (l : List Entry) : List Entry := l.filter fun x => x != e

/-- Insertion into a list in rising order of a key, after its equals. -/
def insertBy (key : Entry → Nat) (e : Entry) : List Entry → List Entry
  | [] => [e]
  | x :: xs => if key e < key x then e :: x :: xs else x :: insertBy key e xs

/-- A list in rising order of a key. -/
def sortBy (key : Entry → Nat) (l : List Entry) : List Entry := l.foldl (fun acc e => insertBy key e acc) []

/-- The first member that no later member betters. -/
def pick {α : Type} (better : α → α → Bool) (l : List α) : Option α :=
  l.foldl (fun acc x => match acc with
    | none => some x
    | some y => if better x y then some x else some y) none

/-- A wanted member if the list has it, else the first (R107, R108). -/
def preferred (wanted : Option Train) (l : List Train) : Option Train :=
  match wanted with
  | some t => if l.contains t then some t else l.head?
  | none => l.head?

end Sys2Proof.Machine
end

