-- ==== Sys2Proof/Machine/Orders.lean ====
section
/-! DEFINITION. Orders, gates and trains at work on one another: conditions of an order (R89..R92), store choice (R93), retarget (R95..R98), permits and
wait lists (R119..R127), train transitions (R131..R144), placing and the dispatch pass (R103..R112). -/

namespace Sys2Proof.Machine

/-! ## Conditions of an order -/

/-- A stamp is the sequence counter's value, and the counter moves on by 1 (Table 6-1 note 1; log 21). -/
def Plant.tick (p : Plant) : Plant := { p with seqNo := p.seqNo + 1 }

/-- A dispatch event (R106). -/
def Plant.event (p : Plant) : Plant := { p with due := true }

def Plant.prio (p : Plant) (e : Entry) : Nat := (p.ord e).priority

/-- The order leaves the condition it is in (R92); a current order's permit is released to its gate (R120). -/
def Plant.leave (p : Plant) (e : Entry) : Plant :=
  let o := p.ord e
  match o.state with
  | .ready => { p with ready := without e p.ready }
  | .waiting => p.modGate o.gate fun g => { g with wait := without e g.wait }
  | .staged => match o.train with
    | some t => p.modTrain t fun r => { r with staged := none }
    | none => p
  | .current =>
    let q := (p.modGate o.gate fun g => { g with holders := without e g.holders }).event
    match o.train with
    | some t => q.modTrain t fun r => { r with current := none }
    | none => q
  | .free | .retired => p

/-- The order becomes READY, at the tail of its priority level (R102). -/
def Plant.readyTail (p : Plant) (e : Entry) : Plant :=
  let q := p.modOrd e fun o => { o with state := .ready, train := none, stagedAt := none }
  ({ q with ready := insertTail q.prio e q.ready }).event

/-- The order becomes READY, at the head of its priority level (R102). -/
def Plant.readyHead (p : Plant) (e : Entry) : Plant :=
  let q := p.modOrd e fun o => { o with state := .ready, train := none, stagedAt := none }
  ({ q with ready := insertHead q.prio e q.ready }).event

/-- The order joins its gate's wait list (R121). -/
def Plant.toWait (p : Plant) (e : Entry) : Plant :=
  let q := (p.leave e).modOrd e fun o => { o with state := .waiting, train := none, stagedAt := none }
  q.modGate (q.ord e).gate fun g => { g with wait := insertTail q.prio e g.wait }

/-- R122: the head of a gate's wait list is promoted. -/
def Plant.promote (p : Plant) (g : Store × Kind) : Plant :=
  match (p.gate g).wait with
  | [] => p
  | e :: rest =>
    let q := p.modGate g fun x => { x with wait := rest }
    if (q.ord e).origin = .grid then q.readyHead e else q.readyTail e

def Plant.promoteN (p : Plant) (g : Store × Kind) : Nat → Plant
  | 0 => p
  | n + 1 => (p.promote g).promoteN g n

/-- R105, R120: once an event's returns and retirements are done, each OPEN gate promotes as many orders as it had
permits freed, gate by gate. `before` is the plant at the event's start. Where a retarget frees permits of several gates
the order of the gates is the gate list's, as for returns (DESIGN CHOICE, log 22). -/
def Plant.promoteFreed (p before : Plant) : Plant :=
  gateList.foldl (fun q g =>
    if (p.gate g).isOpen then q.promoteN g ((before.gate g).holders.length - (p.gate g).holders.length) else q) p

/-! ## Train records -/

/-- R142: the command posted on entry to a state. -/
def commandFor : TrainState → Command
  | .starting | .running => .run
  | .stopping | .fault | .lost => .stop
  | .idle | .offline => .none

/-- The train is STARTING or RUNNING, the states that have a current order (R132). -/
def TrainRec.onDuty (r : TrainRec) : Bool := r.state == .starting || r.state == .running

/-- Entry into a state: its command is posted, the last report is marked stale (R134), the timers of the state left are
stopped (R135), and a fault cause stands only in FAULT. -/
def TrainRec.move (r : TrainRec) (st : TrainState) : TrainRec :=
  { r with state := st, command := commandFor st, fresh := false, window := none, inhibit := none, feedback := none,
           fault := none }

/-- R112: a train that goes from IDLE in restart inhibit to STOPPING, or from STOPPING to IDLE with its restart inhibit
loaded, keeps its staged order, and the change is a dispatch event. -/
def Plant.keepStaged (p : Plant) (t : Train) : Plant := if (p.train t).staged.isSome then p.event else p

/-- R140, R112: entry into STOPPING. -/
def Plant.toStopping (p : Plant) (cfg : Cfg) (t : Train) : Plant :=
  (p.modTrain t fun r => { r.move .stopping with window := some (cfg.stopWindow.get (trainKind t)) }).keepStaged t

/-- R114: the posted setpoint is the current order's setpoint, or the smaller of it and the hold cap. -/
def Plant.post (p : Plant) (t : Train) : Plant :=
  match (p.train t).current with
  | none => p
  | some e => p.modTrain t fun r => { r with posted := match r.cap with
      | none => (p.ord e).setpoint
      | some c => min (p.ord e).setpoint c }

/-- A train gives up its current order, which returns to the head of its level (R105). -/
def Plant.dropCurrent (p : Plant) (t : Train) : Plant :=
  match (p.train t).current with
  | none => p
  | some e => (p.leave e).readyHead e

/-- A train gives up its staged order, which returns to the tail of its level (R105, R112). -/
def Plant.dropStaged (p : Plant) (t : Train) : Plant :=
  match (p.train t).staged with
  | none => p
  | some e => (p.leave e).readyTail e

/-! ## Retirement -/

/-- R92: one order retires. A train that loses its current order goes to STOPPING. The record keeps its other fields. -/
def Plant.retireOne (p : Plant) (cfg : Cfg) (e : Entry) (cause : RetireCause) : Plant :=
  let o := p.ord e
  let q := p.leave e
  let q := match o.state, o.train with
    | .current, some t =>
      if (q.train t).onDuty then q.toStopping cfg t else q
    | _, _ => q
  ((q.modOrd e fun x => { x with state := .retired, cause := some cause, retiredAt := some q.seqNo }).tick).event

/-- R92: several orders retired by one event, with the promotions their permits make. -/
def Plant.retireSet (p : Plant) (cfg : Cfg) (l : List (Entry × RetireCause)) : Plant :=
  (l.foldl (fun q x => q.retireOne cfg x.1 x.2) p).promoteFreed p

/-! ## Creation -/

/-- R93, R103: the train suits a SERVICE order's binding or owner; other orders suit every train. -/
def suits (cfg : Cfg) (origin : Origin) (bound : Option Train) (owner : Option Port) (t : Train) : Bool :=
  match origin with
  | .service => match bound, owner with
    | some b, _ => b == t
    | none, some q => cfg.owner.get t == ownerOfPort q
    | none, none => false
  | .book | .grid => true

/-- R93: the measure of a store: Q_s for EXPAND, K_s - Q_s for COMPRESS. -/
def Env.measure (env : Env) (k : Kind) (s : Store) : Int :=
  match k with
  | .expand => env.heat.get s
  | .compress => (env.cfg.ceil.get s : Int) - env.heat.get s

/-- The store of largest measure, the lowest-numbered of equals. -/
def Env.largest (env : Env) (k : Kind) (l : List Store) : Option Store :=
  pick (fun x y => decide (env.measure k y < env.measure k x)) l

/-- R93: the store of a new order. -/
def Plant.chooseStore (p : Plant) (env : Env) (k : Kind) (serves : Train → Bool) : Store :=
  let able := (trainsOf k).filter serves
  let cands := storeList.filter fun s => !env.isolated.get s
    && able.any fun t => available (p.train t).state && env.cfg.maskHas t s
  match env.largest k (cands.filter fun s => p.canGrant env.cfg (s, k)) with
  | some s => s
  | none => match env.largest k cands with
    | some s => s
    | none =>
      let any := storeList.filter fun s => able.any fun t => env.cfg.maskHas t s
      match env.largest k (any.filter fun s => !env.isolated.get s) with
      | some s => s
      | none => (env.largest k any).getD .s0

/-- R91: the entry a new order takes: the lowest FREE, else the RETIRED with the oldest time retired. -/
def Plant.freeEntry (p : Plant) : Option Entry :=
  match entryList.find? fun e => (p.ord e).state == .free with
  | some e => some e
  | none => pick (fun x y => decide ((p.ord x).retiredAt.getD 0 < (p.ord y).retiredAt.getD 0))
      (entryList.filter fun e => (p.ord e).state == .retired)

/-- R91: the id counter goes from 65,535 to 1. -/
def nextIdAfter (i : Nat) : Nat := if i = 65535 then 1 else i + 1

/-- R91: the first id from the counter on that no other record holds. -/
def freshId (used : List Nat) : Nat → Nat → Nat
  | 0, i => i
  | fuel + 1, i => if used.contains i then freshId used fuel (nextIdAfter i) else i

/-- What a new order is made from. -/
structure NewOrder where
  origin : Origin
  kind : Kind
  priority : Nat
  setpoint : Nat
  store : Option Store
  bound : Option Train
  owner : Option Port
  budget : Option Nat

/-- R91: an order is created in a free entry and enters the ready list at the tail of its level. -/
def Plant.create (p : Plant) (env : Env) (n : NewOrder) : Option (Entry × Plant) :=
  match p.freeEntry with
  | none => none
  | some e =>
    let q := p.setOrd e .empty
    let used := (entryList.filter fun x => (q.ord x).state != .free).map fun x => (q.ord x).id
    let id := freshId used 24 p.nextId
    let store := n.store.getD (q.chooseStore env n.kind (suits env.cfg n.origin n.bound n.owner))
    let o : Order := { Order.empty with
      state := .ready, id := id, origin := n.origin, kind := n.kind, priority := n.priority, setpoint := n.setpoint,
      store := store, bound := n.bound, owner := n.owner, budget := n.budget, created := q.seqNo }
    some (e, ({ (q.setOrd e o).tick with nextId := nextIdAfter id }).readyTail e)

/-- Orders created one after the other, until `count` are made or no entry is left; the entries taken, in order. -/
def Plant.createN (p : Plant) (env : Env) (n : NewOrder) : Nat → List Entry × Plant
  | 0 => ([], p)
  | count + 1 => match p.create env n with
    | none => ([], p)
    | some (e, q) => let r := q.createN env n count; (e :: r.1, r.2)

/-! ## Retarget -/

/-- R94: the effective target, cut by the mode and the inhibits. -/
def Env.effectiveTarget (env : Env) (held : Target) : Target :=
  match held with
  | none => none
  | some (k, w) =>
    if env.mode = .setup ∨ env.mode = .trip ∨ env.inhibited k then none else some (k, w)

/-- R94: the number of orders an effective target calls for. -/
def ordersCalled (cfg : Cfg) : Target → Nat
  | none => 0
  | some (k, w) => if w < cfg.minLoad.get k then 0 else min 4 (divUp w (cfg.rating.get k))

/-- R96: the setpoint of the `i`-th ranked order of `n`. -/
def share (cfg : Cfg) (k : Kind) (w n i : Nat) : Nat :=
  if n * cfg.rating.get k < w then cfg.rating.get k else w / n + (if i < w % n then 1 else 0)

/-- R95 step 2: the ranking of an origin's live orders. -/
def Plant.rank (p : Plant) (l : List Entry) : List Entry :=
  sortBy (fun e => (p.ord e).currentAt.getD 0) (l.filter fun e => (p.ord e).state == .current)
    ++ sortBy (fun e => (p.ord e).stagedAt.getD 0) (l.filter fun e => (p.ord e).state == .staged)
    ++ p.ready.filter (fun e => l.contains e && (p.ord e).state == .ready)
    ++ sortBy (fun e => (p.ord e).created) (l.filter fun e => (p.ord e).state == .waiting)

/-- The live orders of an origin. -/
def Plant.liveOf (p : Plant) (o : Origin) : List Entry :=
  entryList.filter fun e => (p.ord e).state.live && (p.ord e).origin == o

/-- R96: an order's setpoint is set; the posted setpoint follows when it changes on a CURRENT order (R114). -/
def Plant.setSetpoint (p : Plant) (e : Entry) (w : Nat) : Plant :=
  if (p.ord e).setpoint = w then p
  else
    let q := p.modOrd e fun o => { o with setpoint := w }
    match (q.ord e).state, (q.ord e).train with
    | .current, some t => q.post t
    | _, _ => q

/-- R96: the split of an origin's effective target over its ranked orders, from rank `i` on. -/
def Plant.split (p : Plant) (cfg : Cfg) (k : Kind) (w n : Nat) : Nat → List Entry → Plant
  | _, [] => p
  | i, e :: rest => (p.setSetpoint e (share cfg k w n i)).split cfg k w n (i + 1) rest

def Plant.splitTarget (p : Plant) (cfg : Cfg) (tgt : Target) (ranked : List Entry) : Plant :=
  match tgt with
  | none => p
  | some (k, w) => p.split cfg k w (ordersCalled cfg tgt) 0 ranked

/-- The kept orders of an origin and those its retarget retires (R95 steps 1 to 3). -/
def Plant.sift (p : Plant) (cfg : Cfg) (o : Origin) (tgt : Target) : List Entry × List Entry :=
  let live := p.liveOf o
  let right := live.filter fun e => match tgt with
    | some (k, _) => (p.ord e).kind == k
    | none => false
  let ranked := p.rank right
  let keep := ranked.take (ordersCalled cfg tgt)
  (keep, live.filter fun e => !keep.contains e)

/-- A BOOK or GRID order for a target (R90): priority 4 or 6, its setpoint set by the split that follows. -/
def targetOrder (o : Origin) (k : Kind) (cfg : Cfg) : NewOrder :=
  { origin := o, kind := k, priority := if o = .grid then 6 else 4, setpoint := cfg.minLoad.get k, store := none,
    bound := none, owner := none, budget := none }

/-- R95 step 4: the orders an origin lacks. -/
def Plant.lacking (p : Plant) (env : Env) (o : Origin) (tgt : Target) (kept : Nat) : List Entry × Plant :=
  match tgt with
  | none => ([], p)
  | some (k, _) => p.createN env (targetOrder o k env.cfg) (ordersCalled env.cfg tgt - kept)

/-- R95, R97: a retarget of the pair. -/
def Plant.retarget (p : Plant) (env : Env) : Plant :=
  let grid := env.effectiveTarget p.heldGrid
  let book := env.effectiveTarget p.heldBook
  let g := p.sift env.cfg .grid grid
  let b := p.sift env.cfg .book book
  let gone := entryList.filter fun e => g.2.contains e || b.2.contains e
  let q := p.retireSet env.cfg (gone.map fun e => (e, .retarget))
  let ng := q.lacking env .grid grid g.1.length
  let nb := ng.2.lacking env .book book b.1.length
  let q := (nb.2.splitTarget env.cfg grid (g.1 ++ ng.1)).splitTarget env.cfg book (b.1 ++ nb.1)
  let fell := decide (g.1.length + ng.1.length < ordersCalled env.cfg grid)
    || decide (b.1.length + nb.1.length < ordersCalled env.cfg book)
  let q := { q with short := fell }
  if fell then q.raiseOn [.pa, .pb] .tableFull else q

/-- R92, R97: orders retired by one event, and the retarget that follows when one of them is a BOOK or GRID order not
retired by a retarget, or while the short mark is set. -/
def Plant.retireAll (p : Plant) (env : Env) (l : List (Entry × RetireCause)) : Plant :=
  if l.isEmpty then p
  else
    let q := p.retireSet env.cfg l
    if p.short || l.any (fun x => (p.ord x.1).targeted && x.2 != .retarget) then q.retarget env else q

/-- R98: the placement indication. -/
def Plant.indication (p : Plant) (env : Env) : Bool :=
  let live := p.liveOf .grid
  live.length == ordersCalled env.cfg (env.effectiveTarget p.heldGrid) && live.all fun e => (p.ord e).state == .current

/-! ## Placing -/

/-- R103 but for its second condition: the train is compatible with the order. -/
def compatible (env : Env) (o : Order) (t : Train) : Bool :=
  trainKind t == o.kind
    && (match (env.cfg.owner.get t).port? with
      | some q => env.live.get q
      | none => false)
    && env.cfg.maskHas t o.store && !o.bars.get t && suits env.cfg o.origin o.bound o.owner t && env.mode == .normal

/-- R103: the train is eligible for the order. -/
def Plant.eligible (p : Plant) (env : Env) (o : Order) (t : Train) : Bool :=
  compatible env o t && (p.train t).state == .idle && (p.train t).inhibit.isNone

/-- The order becomes CURRENT on the train and holds a permit of its gate (R107, R109, R112). -/
def Plant.makeCurrent (p : Plant) (e : Entry) (t : Train) : Plant :=
  let q := (p.modOrd e fun o => { o with
    state := .current, train := some t, lastTrain := some t, currentAt := some p.seqNo, stagedAt := none }).tick
  let q := q.modGate (q.ord e).gate fun g => { g with holders := g.holders ++ [e] }
  (q.modTrain t fun r => { r with current := some e }).post t

/-- R107, R138: the order takes a permit and becomes CURRENT on an idle train, which goes to STARTING. -/
def Plant.place (p : Plant) (env : Env) (e : Entry) (t : Train) : Plant :=
  let q := (p.leave e).modTrain t fun r => { r.move .starting with
    window := some (env.cfg.startWindow.get (trainKind t)), starts := (r.starts + 1) % 65536 }
  q.makeCurrent e t

/-- R108: the order is staged on the train. -/
def Plant.stageOn (p : Plant) (e : Entry) (t : Train) : Plant :=
  let q := (p.leave e).modOrd e fun o => { o with state := .staged, train := some t, stagedAt := some p.seqNo }
  (q.tick.modTrain t fun r => { r with staged := some e }).event

/-- R108: the train is one on which an order can be staged: IDLE in restart inhibit, or STOPPING. -/
def TrainRec.holdsStage (r : TrainRec) : Bool := (r.state == .idle && r.inhibit.isSome) || r.state == .stopping

/-- R108: the train to stage on, with the order displaced from it if any. -/
def Plant.stagePlace (p : Plant) (env : Env) (o : Order) : Option (Train × Option Entry) :=
  let hold := (trainsOf o.kind).filter fun t => compatible env o t && (p.train t).holdsStage
  match preferred o.lastTrain (hold.filter fun t => (p.train t).staged.isNone) with
  | some t => some (t, none)
  | none =>
    let lower := hold.filterMap fun t => match (p.train t).staged with
      | some d => if (p.ord d).priority < o.priority then some (t, d) else none
      | none => none
    match pick (fun x y => decide ((p.ord x.2).priority < (p.ord y.2).priority)
        || ((p.ord x.2).priority == (p.ord y.2).priority
          && decide ((p.ord y.2).stagedAt.getD 0 < (p.ord x.2).stagedAt.getD 0))) lower with
    | some x => some (x.1, some x.2)
    | none => none

/-- R109, R110: the victim of a relabel for the order, among the holders of its own gate or among all. -/
def Plant.victim (p : Plant) (env : Env) (o : Order) (ownGate : Bool) : Option (Train × Entry) :=
  let cands := (trainsOf o.kind).filterMap fun t => match (p.train t).current with
    | some v =>
      if (p.train t).onDuty && env.cfg.maskHas t o.store
          && !o.bars.get t && suits env.cfg o.origin o.bound o.owner t && decide ((p.ord v).priority < o.priority)
          && (!ownGate || (p.ord v).store == o.store) then some (t, v) else none
    | none => none
  pick (fun x y => decide ((p.ord x.2).priority < (p.ord y.2).priority)
    || ((p.ord x.2).priority == (p.ord y.2).priority
      && decide ((p.ord y.2).currentAt.getD 0 < (p.ord x.2).currentAt.getD 0))) cands

/-- R109: the train passes from the victim to the order without stopping. A permit of another gate is released and
promotes there; one of the order's own gate is transferred, and nothing is promoted. -/
def Plant.relabel (p : Plant) (e : Entry) (t : Train) (v : Entry) : Plant :=
  ((((p.leave v).readyHead v).leave e).makeCurrent e t).promoteFreed p

/-- R104: the bar set as R107 considers it: emptied when no train is eligible but one would be without it. -/
def Plant.unbar (p : Plant) (env : Env) (e : Entry) : Plant :=
  let o := p.ord e
  let bare := { o with bars := .all false }
  if !((trainsOf o.kind).any fun t => p.eligible env o t) && ((trainsOf o.kind).any fun t => p.eligible env bare t) then
    p.setOrd e bare
  else p

/-- R107: the train on which an order can be placed. -/
def Plant.placeFor (p : Plant) (env : Env) (o : Order) : Option Train :=
  preferred o.lastTrain ((trainsOf o.kind).filter fun t => p.eligible env o t)

/-- Table 6-5: a READY order in a pass. -/
def Plant.considerReady (p : Plant) (env : Env) (e : Entry) : Plant :=
  let g := (p.ord e).gate
  if !(p.gate g).isOpen then p.toWait e
  else if p.freePermits env.cfg g = 0 then
    match p.victim env (p.ord e) true with
    | some (t, v) => p.relabel e t v
    | none => p.toWait e
  else
    let q := p.unbar env e
    let o := q.ord e
    match q.placeFor env o with
    | some t => q.place env e t
    | none => match q.stagePlace env o with
      | some (t, none) => q.stageOn e t
      | some (t, some d) => ((q.leave d).readyHead d).stageOn e t
      | none => match q.victim env o false with
        | some (t, v) => q.relabel e t v
        | none => q

/-- R111: a STAGED order in a pass. -/
def Plant.considerStaged (p : Plant) (env : Env) (e : Entry) : Plant :=
  if p.canGrant env.cfg (p.ord e).gate then
    match p.placeFor env (p.ord e) with
    | some t => p.place env e t
    | none => p
  else p

/-- R106: the orders a pass considers, in its order: each level's READY orders, then its STAGED orders. -/
def Plant.passOrder (p : Plant) : List Entry :=
  [6, 5, 4, 3, 2, 1, 0].flatMap fun level =>
    p.ready.filter (fun e => p.prio e == level)
      ++ sortBy (fun e => (p.ord e).stagedAt.getD 0)
        (entryList.filter fun e => (p.ord e).state == .staged && p.prio e == level)

/-- R106: an order is considered in the condition in which the pass found it; one that has left it since is not. -/
def Plant.consider (start p : Plant) (env : Env) (e : Entry) : Plant :=
  match (start.ord e).state, (p.ord e).state with
  | .ready, .ready => p.considerReady env e
  | .staged, .staged => p.considerStaged env e
  | _, _ => p

/-- R106: one dispatch pass. -/
def Plant.pass (p : Plant) (env : Env) : Plant :=
  p.passOrder.foldl (fun q e => p.consider q env e) { p with due := false }

/-- R106: passes are run while dispatch events stand; the bound is never reached (log 23). -/
def Plant.passes (env : Env) : Nat → Plant → Plant
  | 0, p => { p with due := false }
  | n + 1, p => if p.due then Plant.passes env n (p.pass env) else p

/-- R106, R113: the passes that an event's dispatch events call for: in NORMAL alone. -/
def Plant.dispatch (p : Plant) (env : Env) : Plant :=
  if env.mode = .normal then Plant.passes env 256 p else { p with due := false }

/-! ## Train transitions -/

/-- R112: the staged order of a train that has become IDLE with its restart inhibit expired. -/
def Plant.resolveStaged (p : Plant) (env : Env) (t : Train) : Plant :=
  match (p.train t).staged with
  | none => p
  | some e =>
    if p.eligible env (p.ord e) t then
      if p.canGrant env.cfg (p.ord e).gate then p.place env e t else p.toWait e
    else (p.leave e).readyTail e

/-- R137: the train becomes eligible, a dispatch event. -/
def Plant.becomeFree (p : Plant) (env : Env) (t : Train) : Plant :=
  (p.modTrain t fun r => { r with inhibit := none }).event.resolveStaged env t

/-- Entry into IDLE from OFFLINE: no restart inhibit (R136). -/
def Plant.toIdle (p : Plant) (env : Env) (t : Train) : Plant :=
  (p.modTrain t fun r => r.move .idle).becomeFree env t

/-- Entry into IDLE from STOPPING, FAULT or LOST: the restart inhibit is loaded; one of 0 s runs out as it is loaded
(R132, R135); a staged order is kept while it runs (R112). -/
def Plant.toIdleInhibited (p : Plant) (env : Env) (t : Train) : Plant :=
  if env.cfg.restartInhibit.get (trainKind t) = 0 then p.toIdle env t
  else (p.modTrain t fun r =>
    { r.move .idle with inhibit := some (env.cfg.restartInhibit.get (trainKind t)) }).keepStaged t

/-- Entry into OFFLINE: a staged order returns (R136). -/
def Plant.toOffline (p : Plant) (t : Train) : Plant := (p.dropStaged t).modTrain t fun r => r.move .offline

/-- R141, Table 8-3: entry into FAULT. A current order returns with this train in its bar set, a staged order returns;
TRAIN_FAULT is raised on the owner's link. -/
def Plant.toFault (p : Plant) (env : Env) (t : Train) (cause : FaultCause) : Plant :=
  let q := match (p.train t).current with
    | some e => p.modOrd e fun o => { o with bars := o.bars.set t true }
    | none => p
  let q := ((q.dropCurrent t).dropStaged t).modTrain t fun r => { r.move .fault with fault := some cause }
  let q := q.promoteFreed p
  match (env.cfg.owner.get t).port? with
  | some port => q.raise port .trainFault
  | none => q

/-- R143: every train of a link goes to LOST; its orders return. -/
def Plant.loseTrains (p : Plant) (cfg : Cfg) (port : Port) : Plant :=
  let q := trainList.foldl (fun q t =>
    if cfg.owner.get t = ownerOfPort port then ((q.dropCurrent t).dropStaged t).modTrain t fun r => r.move .lost else q) p
  q.promoteFreed p

/-- Table 8-2: the move a reported state makes, with the feedback as it stands. -/
def Plant.reportMove (p : Plant) (env : Env) (t : Train) (r : Reported) : Plant :=
  let fb := env.feedback.get t
  match (p.train t).state, r with
  | .offline, .stopped => if fb then p else p.toIdle env t
  | .offline, .unavailable => p
  | .offline, _ => p.toStopping env.cfg t
  | .idle, .stopped => p
  | .idle, .unavailable => p.toOffline t
  | .idle, _ => p.toStopping env.cfg t
  | .starting, .running => if fb then p.modTrain t fun r => r.move .running else p
  | .starting, .unavailable => p.toFault env t .reported
  | .starting, _ => p
  | .running, .stopped | .running, .unavailable => p.toFault env t .reported
  | .running, _ => p
  | .stopping, .stopped => if fb then p else p.toIdleInhibited env t
  | .stopping, .unavailable => if fb then p else p.toOffline t
  | .stopping, _ => p
  | .fault, _ => p
  | .lost, .stopped => if fb then p.toStopping env.cfg t else p.toIdleInhibited env t
  | .lost, _ => p.toStopping env.cfg t

/-- R137..R140: a change of the feedback line. `env` has the new value. -/
def Plant.feedbackMove (p : Plant) (env : Env) (t : Train) : Plant :=
  let r := p.train t
  match r.state, env.feedback.get t with
  | .idle, true | .running, false =>
    p.modTrain t fun r => { r with feedback := some env.cfg.feedbackWindow }
  | .idle, false | .running, true => p.modTrain t fun r => { r with feedback := none }
  | .starting, true =>
    if r.fresh && r.reported == some .running then p.modTrain t fun r => r.move .running else p
  | .stopping, false =>
    if r.fresh && r.reported == some .stopped then p.toIdleInhibited env t else p
  | _, _ => p

/-- R133: the report as it is taken: the held power and the last report are replaced, then the state moves. -/
def Plant.report (p : Plant) (env : Env) (t : Train) (r : Reported) (power : Nat) : Plant :=
  (p.modTrain t fun x => { x with power := power, reported := some r, fresh := true }).reportMove env t r

/-- R141: a train taken out of FAULT. -/
def Plant.clearFault (p : Plant) (env : Env) (t : Train) : Plant :=
  if (p.train t).reported = some .stopped ∧ env.feedback.get t = false then p.toIdleInhibited env t
  else p.toStopping env.cfg t

/-! ## Timers (a timer that has run out stands at 0 until its event is taken, log 3) -/

/-- R135: one Timebase second on a running timer. -/
def tickDown : Option Nat → Option Nat
  | none => none
  | some n => some (n - 1)

/-- R135: one Timebase second on a train's timers. -/
def TrainRec.tick (r : TrainRec) : TrainRec :=
  { r with window := tickDown r.window, inhibit := tickDown r.inhibit, feedback := tickDown r.feedback }

/-- R100: 1 is taken from the budget of a SERVICE order that is CURRENT on a RUNNING train. -/
def Plant.tickBudget (p : Plant) (e : Entry) : Plant :=
  match (p.ord e).state, (p.ord e).train, (p.ord e).origin with
  | .current, some t, .service =>
    if (p.train t).state = .running then p.modOrd e fun o => { o with budget := tickDown o.budget } else p
  | _, _, _ => p

/-- R100, R135: one Timebase second on the budgets and the trains' timers. -/
def Plant.second (p : Plant) : Plant :=
  let q := entryList.foldl (fun q e => q.tickBudget e) p
  { q with trains := .of fun t => (q.trains.get t).tick }

/-- R138: the start window has run out. -/
def Plant.startWindowOut (p : Plant) (env : Env) (t : Train) : Plant :=
  if (p.train t).state = .starting ∧ (p.train t).window = some 0 then p.toFault env t .startTimeout else p

/-- R140: the stop window has run out. -/
def Plant.stopWindowOut (p : Plant) (env : Env) (t : Train) : Plant :=
  if (p.train t).state = .stopping ∧ (p.train t).window = some 0 then p.toFault env t .stopTimeout else p

/-- R137: the restart inhibit has run out. -/
def Plant.inhibitOut (p : Plant) (env : Env) (t : Train) : Plant :=
  if (p.train t).state = .idle ∧ (p.train t).inhibit = some 0 then p.becomeFree env t else p

/-- R137, R139: the feedback timer has run out: an IDLE train goes to STOPPING, a RUNNING train to FAULT. -/
def Plant.feedbackOut (p : Plant) (env : Env) (t : Train) : Plant :=
  if (p.train t).feedback = some 0 then
    match (p.train t).state with
    | .idle => p.toStopping env.cfg t
    | .running => p.toFault env t .feedbackMismatch
    | _ => p
  else p

/-- R100: the order's budget has run out. -/
def Order.budgetOut (o : Order) : Bool := o.state.live && o.origin == .service && o.budget == some 0

/-- R100: an order whose budget is 0 retires BUDGET_END. -/
def Plant.budgetOut (p : Plant) (env : Env) (e : Entry) : Plant :=
  if (p.ord e).budgetOut then p.retireAll env [(e, .budgetEnd)] else p

/-! ## Gates -/

/-- Table 7-2: the heat at which a gate closes. -/
def Env.closes (env : Env) (g : Store × Kind) : Bool :=
  match g.2 with
  | .expand => decide (env.heat.get g.1 ≤ env.cfg.floor.get g.1)
  | .compress => decide (env.cfg.ceil.get g.1 ≤ env.heat.get g.1)

/-- Table 7-2: the heat at which a gate reopens. -/
def Env.reopens (env : Env) (g : Store × Kind) : Bool :=
  let q := env.heat.get g.1
  let f := env.cfg.floor.get g.1
  let k := env.cfg.ceil.get g.1
  let h := env.cfg.hysteresis.get g.1
  match g.2 with
  | .expand => decide (min (f + h) (env.cfg.capacity.get g.1) ≤ q) && decide (f < q)
  | .compress => decide (q ≤ k - h) && decide (q < k)

/-- A gate opens and promotes as many orders as it has free permits (R123, R127). -/
def Plant.openGate (p : Plant) (cfg : Cfg) (g : Store × Kind) : Plant :=
  let q := p.modGate g fun x => { x with isOpen := true }
  q.promoteN g (q.freePermits cfg g)

/-- R123: one gate is tested against its thresholds. -/
def Plant.testGate (p : Plant) (env : Env) (g : Store × Kind) : Plant :=
  if env.isolated.get g.1 then p
  else if (p.gate g).isOpen then
    if env.closes g then p.modGate g fun x => { x with isOpen := false } else p
  else if env.reopens g then p.openGate env.cfg g else p

/-- R124: the holders that an evaluation retires at a gate. They are retired, and stamped, in the order in which they took
their permits (DESIGN CHOICE, log 22). -/
def Plant.limitHolders (p : Plant) (env : Env) (g : Store × Kind) : List (Entry × RetireCause) :=
  match g.2 with
  | .expand => if env.heat.get g.1 = 0 then (p.gate g).holders.map fun e => (e, .heatExhausted) else []
  | .compress =>
    if env.heat.get g.1 = env.cfg.capacity.get g.1 then (p.gate g).holders.map fun e => (e, .heatFull) else []

/-- R125: one evaluation of the six gates; what it retires is retired together. -/
def Plant.evaluateGates (p : Plant) (env : Env) : Plant :=
  let q := gateList.foldl (fun q g => q.testGate env g) p
  q.retireAll env (gateList.flatMap fun g => q.limitHolders env g)

/-- R126: a store's ISOLATED flag has latched; `env` has it set. -/
def Plant.isolate (p : Plant) (env : Env) (s : Store) : Plant :=
  let q := (p.modGate (s, .expand) fun g => { g with isOpen := false }).modGate (s, .compress) fun g =>
    { g with isOpen := false }
  let gone := entryList.filter fun e => (q.ord e).state.live && (q.ord e).store == s
    && ((q.ord e).state == .current || (q.ord e).targeted)
  q.retireAll env (gone.map fun e => (e, .isolated))

/-- R127: a store's ISOLATED flag has been cleared. The draw gate opens and promotes before the fill gate (DESIGN CHOICE,
log 22). -/
def Plant.unisolate (p : Plant) (env : Env) (s : Store) : Plant :=
  [(s, Kind.expand), (s, Kind.compress)].foldl (fun q g => if env.reopens g then q.openGate env.cfg g else q) p

/-- R115: every live order of a kind retires INHIBIT. -/
def Plant.inhibitKind (p : Plant) (env : Env) (k : Kind) : Plant :=
  p.retireAll env ((entryList.filter fun e => (p.ord e).state.live && (p.ord e).kind == k).map fun e => (e, .inhibit))

/-- R115: every live order retires TRIP. -/
def Plant.tripAll (p : Plant) (env : Env) : Plant :=
  p.retireAll env ((entryList.filter fun e => (p.ord e).state.live).map fun e => (e, .trip))

/-- R159 steps 2 and 3: on entry into HOLD the trains outside the mask give up their orders and stop; those in it are
capped. -/
def Plant.holdTrains (p : Plant) (cfg : Cfg) (mask : PerTrain Bool) : Plant :=
  let q := trainList.foldl (fun q t =>
    if (q.train t).current.isNone then q
    else if mask.get t then
      q.modTrain t fun r => { r with cap := if r.onDuty then some r.posted else r.cap }
    else (q.dropCurrent t).toStopping cfg t) p
  q.promoteFreed p

/-- R160, R114: the hold caps are cleared and the posted setpoints written again. -/
def Plant.clearCaps (p : Plant) : Plant :=
  trainList.foldl (fun q t => (q.modTrain t fun r => { r with cap := none }).post t) p

/-- R147: the computed permit of a train. -/
def TrainRec.permit (r : TrainRec) : Bool := r.onDuty && r.current.isSome

/-- Table 8-4, warm restart. -/
def TrainRec.warm (r : TrainRec) : TrainRec :=
  { TrainRec.cold with power := r.power, reported := r.reported, starts := r.starts }

/-- R117, R130, R150, R182: what a warm restart leaves of the orders, gates and trains, and the causes it clears. -/
def Plant.warm (p : Plant) : Plant :=
  { p with
    trains := .of fun t => (p.trains.get t).warm
    orders := Vector.replicate 24 .empty
    ready := []
    heldBook := none
    heldGrid := none
    short := false
    placed := true
    gates := .of fun s => ⟨⟨(p.gates.get s).compress.isOpen, [], []⟩, ⟨(p.gates.get s).expand.isOpen, [], []⟩⟩
    causes := .of fun q => { p.causes.get q with flags := 0#16 }
    due := false }

end Sys2Proof.Machine
end

