-- ==== Sys2Proof/Machine/Ops.lean ====
section
/-! DEFINITION. Shared operations over the whole state: what every step ends with, the Reserve Unit's targets (R77..R86), the plant mode
(R156..R162), inhibits and isolation (R153..R155), and the discrete inputs (R151, R152). -/

namespace Sys2Proof.Machine

/-- The dispatch machinery at work on its records. -/
def State.onPlant (s : State) (f : Env → Plant → Plant) : State := { s with plant := f s.env s.plant }

/-- The passes that the dispatch events so far call for (R106). -/
def State.dispatch (s : State) : State := s.onPlant fun env p => p.dispatch env

/-- R147: the permit latch that the records and the mode form. -/
def State.formLatch (s : State) : PerTrain Bool :=
  .of fun t => match s.prot.mode with
    | .normal => (s.plant.trains.get t).permit
    | .hold => (s.plant.trains.get t).permit && s.prot.holdMask.get t
    | .setup | .trip => false

/-- R27: both power capacities. -/
def Headroom.capacities (h : Headroom) (cfg : Cfg) (trains : PerTrain TrainRec) (dInhibit cInhibit : Bool) : Headroom :=
  { h with pxCap := capacity cfg trains dInhibit .expand, pcCap := capacity cfg trains cInhibit .compress }

/-- What every step of a running part ends with: the power capacities (R27), the placement indication (R98), the permit
latch and lines (R147), TRO (R161) and the ATTN lines (R171) follow the state the step leaves. -/
def State.settle (s : State) : State :=
  { s with
    head := s.head.capacities s.store.cfg s.plant.trains s.prot.dischargeInhibit s.prot.chargeInhibit
    plant := { s.plant with placed := s.plant.indication s.env }
    prot := { s.prot with latch := s.formLatch }
    pins := ⟨s.formLatch, s.prot.mode == .trip, .of fun q => (s.plant.causes.get q).attn⟩ }

/-- The end of a step: the passes its dispatch events call for, then what follows the state. -/
def State.finish (s : State) : State := s.dispatch.settle

/-- An event in a running part. While RSTN is low or the supply is off, nothing happens (R180, log 19). -/
def State.happen (s : State) (f : State → State) : State :=
  match s.supply with
  | .running => (f s).finish
  | .held | .off => s

/-! ## Reserve Unit -/

/-- The target a signed power makes (R82): EXPAND above 0, COMPRESS below, none at 0. -/
def targetOf (w : Int) : Target :=
  if w = 0 then none else if 0 < w then some (.expand, w.natAbs) else some (.compress, w.natAbs)

/-- Table 5-2: the netting of the book's power B and the activation a, as (BOOK, GRID). -/
def net (b a : Int) : Target × Target :=
  if b = 0 ∨ a = 0 ∨ (0 < b ∧ 0 < a) ∨ (b < 0 ∧ a < 0) then (targetOf b, targetOf a)
  else if a.natAbs ≤ b.natAbs then (targetOf (b + a), none)
  else (none, targetOf (b + a))

/-- R82, R83: the pair of targets as the state calls for them. -/
def State.targets (s : State) : Target × Target :=
  let n := net (4 * s.active.e) s.res.a
  (s.env.effectiveTarget n.1, s.env.effectiveTarget n.2)

/-- R84, R94: a pair that differs from the last handed is handed to the Dispatch Unit, which retargets. -/
def State.reform (s : State) : State :=
  let n := s.targets
  if n = (s.res.bookTarget, s.res.gridTarget) then s
  else
    { s with
      res := { s.res with bookTarget := n.1, gridTarget := n.2 }
      plant := ({ s.plant with heldBook := n.1, heldGrid := n.2 } : Plant).retarget s.env }

/-- R85: the condition under which an activation is withheld. -/
def State.withholds (s : State) : Bool :=
  s.res.a != 0 && (s.prot.mode != .normal || (decide (0 < s.res.a) && s.prot.dischargeInhibit)
    || (decide (s.res.a < 0) && s.prot.chargeInhibit))

/-- R85: the withheld condition is judged; `asked` when an ACTIVATE has just been taken. DESIGN CHOICE (log 33): an
ACTIVATE is judged on the state it leaves, so one that flips a's sign in NORMAL and so clears the condition raises
nothing. -/
def State.judgeWithheld (s : State) (asked : Bool) : State :=
  let now := s.withholds
  let t := if now && (asked || !s.res.withheld) then s.raise .gr .reserveShort else s
  { t with res := { t.res with withheld := now } }

/-- R78, R80: a value clamped into [-R_dn_eff, +R_up_eff] of the active slot. -/
def State.clampToHolding (s : State) (a : Int) : Int := max (-s.active.dn) (min a s.active.up)

/-- R77, R80: the unit takes a new holding. -/
def State.takeHolding (s : State) : State :=
  let a := s.clampToHolding s.res.a
  let t := if a = s.res.a then s else s.raise .gr .actClamped
  ({ t with res := { t.res with a := a } } : State).reform.judgeWithheld false

/-- R81: expiry of the GR link timer ends the activation. -/
def State.endActivation (s : State) : State :=
  let t := s.raise .gr .actEnded
  ({ t with res := { t.res with a := 0, requested := 0 } } : State).reform.judgeWithheld false

/-- R86: whether this second counts for the placement wait. -/
def State.waitCounts (s : State) : Bool :=
  s.prot.mode == .normal && match s.res.gridTarget with
    | none => false
    | some (k, w) => decide (w < s.store.cfg.minLoad.get k) || !s.plant.placed

/-- R86: the Reserve Unit's part of the per-second event. -/
def State.reserveSecond (s : State) : State :=
  if s.waitCounts then
    let t := if s.res.wait = 59 then s.raise .gr .reserveShort else s
    { t with res := { t.res with wait := min 60 (t.res.wait + 1) } }
  else { s with res := { s.res with wait := 0 } }

/-! ## Plant mode -/

/-- R156: a mode change is handed on: MODE is raised, the Reserve Unit re-forms its targets, judges the withheld
condition and resets its wait; entering NORMAL is a dispatch event. -/
def State.handMode (s : State) : State :=
  let t := s.raiseOn [.mk, .gr] .mode
  let t := ({ t with res := { t.res with wait := 0 } } : State).reform.judgeWithheld false
  if t.prot.mode = .normal then { t with plant := t.plant.event } else t

def State.setMode (s : State) (m : PlantMode) : State := { s with prot := { s.prot with mode := m } }

/-- R161: entry into TRIP. -/
def State.enterTrip (s : State) : State :=
  (((s.setMode .trip).onPlant fun env p => p.tripAll env).raiseOn [.pa, .pb] .trip).handMode

/-- R159: entry into HOLD. -/
def State.enterHold (s : State) : State :=
  let t := s.setMode .hold
  let t := { t with prot := { t.prot with holdMask := t.store.cfg.holdBit } }
  ((t.onPlant fun env p => p.holdTrains env.cfg t.prot.holdMask).raiseOn [.pa, .pb] .hold).handMode

/-- A protective line is qualified active. -/
def State.lineActive (s : State) (p : Protective) : Bool := (s.prot.lines.prot.get p).active

/-- R156: entry into NORMAL, judged against the level-held conditions within the same event. -/
def State.enterNormal (s : State) : State :=
  if s.lineActive .est || s.lineActive .gof then s.enterTrip
  else if s.lineActive .hrq then s.enterHold
  else (s.setMode .normal).handMode

/-- R158: a hold condition enters HOLD from NORMAL and changes nothing in another mode. -/
def State.holdCondition (s : State) : State := if s.prot.mode = .normal then s.enterHold else s

/-! ## Inhibits and isolation -/

/-- R84, R85: the Reserve Unit's reaction to an inhibit. -/
def State.reserveReacts (s : State) : State := s.reform.judgeWithheld false

/-- R153: an inhibit latches. Either order of the Dispatch Unit's and the Reserve Unit's reactions is correct, and the
retire causes tell them apart: a free choice (log 7). -/
def State.latchInhibit (s : State) (k : Kind) : State :=
  if s.env.inhibited k then s
  else
    let t := match k with
      | .compress => { s with prot := { s.prot with chargeInhibit := true } }
      | .expand => { s with prot := { s.prot with dischargeInhibit := true } }
    let t := { t.raiseOn [.pa, .pb] .inhibit with free := s.free + 1 }
    if Config.reserveFirst s.free then t.reserveReacts.onPlant fun env p => p.inhibitKind env k
    else (t.onPlant fun env p => p.inhibitKind env k).reserveReacts

/-- R155: an inhibit is cleared. -/
def State.clearInhibit (s : State) (k : Kind) : State :=
  if s.env.inhibited k then
    let t := match k with
      | .compress => { s with prot := { s.prot with chargeInhibit := false } }
      | .expand => { s with prot := { s.prot with dischargeInhibit := false } }
    t.reserveReacts
  else s

/-- R154: a store's ISOLATED flag latches. -/
def State.latchIsolated (s : State) (st : Store) : State :=
  if s.prot.isolated.get st then s
  else
    let t := { s with prot := { s.prot with isolated := s.prot.isolated.set st true } }
    ((t.raiseOn [.pa, .pb] .inhibit).onPlant fun env p => p.isolate env st).recomputeHeadroom

/-- R155: a store's ISOLATED flag is cleared. -/
def State.clearIsolated (s : State) (st : Store) : State :=
  if s.prot.isolated.get st then
    let t := { s with prot := { s.prot with isolated := s.prot.isolated.set st false } }
    (t.onPlant fun env p => p.unisolate env st).recomputeHeadroom
  else s

/-! ## Discrete inputs -/

/-- R161, R157: EST or GOF becomes qualified active. -/
def State.tripLine (s : State) : State :=
  match s.prot.mode with
  | .normal | .hold => s.enterTrip
  | .setup => s.raiseOn [.pa, .pb] .trip
  | .trip => s

/-- Table 9-2: a protective line becomes qualified active. -/
def State.protectiveActive (s : State) : Protective → State
  | .phi => s.latchInhibit .compress
  | .plo => s.latchInhibit .expand
  | .ts0 => s.latchIsolated .s0
  | .ts1 => s.latchIsolated .s1
  | .ts2 => s.latchIsolated .s2
  | .est | .gof => s.tripLine
  | .hrq => s.holdCondition

/-- R152: a line's qualified value has changed; the state already holds the new one. -/
def State.lineChanged (s : State) (l : Line) : State :=
  match l with
  | .prot p => if s.lineActive p then s.protectiveActive p else s
  | .feedback t => s.onPlant fun env p => p.feedbackMove env t

/-- A line's qualifier takes a value and an agreement count; a change of the value is an event (R152). -/
def State.setLine (s : State) (l : Line) (active : Bool) (count : Nat) : State :=
  let t := { s with prot := { s.prot with lines := s.prot.lines.set l ⟨active, count⟩ } }
  if active = (s.prot.lines.get l).active then t else t.lineChanged l

/-- The agreeing samples a mode asks for (R151). -/
def QualifierMode.samples : QualifierMode → Nat
  | .sync => 1
  | .q3 => 3
  | .q6 => 6

/-- R151: one sample of a line. -/
def State.sampleLine (s : State) (l : Line) (level : Bool) : State :=
  if s.store.cfg.enabled.get l then
    let q := s.prot.lines.get l
    let raw := level != s.store.cfg.activeLow.get l
    if raw = q.active then s.setLine l q.active 0
    else if q.count + 1 < (s.store.cfg.qualifier.get l).samples then s.setLine l q.active (q.count + 1)
    else s.setLine l raw 0
  else s

end Sys2Proof.Machine
end

