-- ==== Sys2Proof/Machine/Inventory.lean ====
section
/-! DEFINITION. The Inventory Unit (01_cavern_and_heat_store_inventory.md): the wellhead decoder, the accounting second, standing loss, reconciliation,
attribution of reported mass, and seeding. -/

namespace Sys2Proof.Machine

/-- The top of M's range (R1). -/
def massTop : Nat := 40000000

/-- R1: a value brought into 0..top. -/
def intoRange (top : Nat) (x : Int) : Nat := min x.toNat top

/-- Table 1-2: the count of a transition from reference to sample; none when it is illegal. -/
def quadrature : Bool × Bool → Bool × Bool → Option Int
  | (false, false), (true, false) | (true, false), (true, true) | (true, true), (false, true)
  | (false, true), (false, false) => some 1
  | (true, false), (false, false) | (true, true), (true, false) | (false, true), (true, true)
  | (false, false), (false, true) => some (-1)
  | (false, false), (true, true) | (true, true), (false, false) | (true, false), (false, true)
  | (false, true), (true, false) => none
  | (false, false), (false, false) | (true, true), (true, true) | (true, false), (true, false)
  | (false, true), (false, true) => some 0

/-- R4, R5: one sample of WA and WB. -/
def Inventory.sample (v : Inventory) (x : Bool × Bool) : Inventory :=
  match v.reference with
  | none => { v with reference := some x }
  | some r => match quadrature r x with
    | some n => { v with reference := some x, netCount := v.netCount + n }
    | none => { v with reference := some x, secondValid := false }

/-- R9: the store a report's mass is attributed to. -/
def State.reportStore (s : State) (t : Train) : Store :=
  match (s.plant.train t).current with
  | some e => (s.plant.ord e).store
  | none => match s.inv.lastStore.get t with
    | some st => st
    | none => (storeList.find? fun st => s.store.cfg.maskHas t st).getD .s0

/-- R9: a reported mass is added to the train's accumulator for a store. -/
def Inventory.attribute (v : Inventory) (t : Train) (st : Store) (kg : Nat) : Inventory :=
  let a := v.acc.get t
  { v with acc := v.acc.set t (a.set st (min massTop (a.get st + kg))), lastStore := v.lastStore.set t (some st) }

/-- The mass in the accumulators of the trains of a kind for a store. -/
def Inventory.reported (v : Inventory) (k : Kind) (st : Store) : Nat :=
  (trainsOf k).foldl (fun n t => n + (v.acc.get t).get st) 0

/-- R10: a_c or a_x. -/
def Inventory.reportedAll (v : Inventory) (k : Kind) : Nat :=
  v.reported k .s0 + v.reported k .s1 + v.reported k .s2

/-- R14, R18: a new, empty window. -/
def Inventory.emptyWindow (v : Inventory) : Inventory :=
  { v with sumWellhead := 0, sumTrains := 0, throughput := 0, windowSeconds := 0 }

/-- R6: the grams of a valid second, from a remainder. -/
def Inventory.grams (v : Inventory) (cfg : Cfg) (rem : Int) : Int := v.netCount * cfg.gramsPerCount + rem

/-- R6..R8: the decoder's result and the source. Answers the inventory after judging, the second's wellhead mass (none
when it has none), and whether RECON is raised. -/
def Inventory.judgeSource (v : Inventory) (cfg : Cfg) : Inventory × Option Int × Bool :=
  match v.source, v.secondValid with
  | .wellhead, true =>
    let g := v.grams cfg v.gramRem
    ({ v with invalidStreak := 0, gramRem := g - 1000 * g.tdiv 1000 }, some (g.tdiv 1000), false)
  | .wellhead, false =>
    if v.invalidStreak + 1 < 3 then ({ v with invalidStreak := v.invalidStreak + 1 }, none, false)
    else ({ v.emptyWindow with source := .trainSum, invalidStreak := 0, cleanStreak := 0, gramRem := 0,
                               reconFault := true, passStreak := 0 }, none, true)
  | .trainSum, true =>
    if v.cleanStreak + 1 < 60 then ({ v with cleanStreak := v.cleanStreak + 1, gramRem := 0 }, none, false)
    else
      let g := v.grams cfg 0
      ({ v.emptyWindow with source := .wellhead, invalidStreak := 0, cleanStreak := 0, passStreak := 0,
                            gramRem := g - 1000 * g.tdiv 1000 }, some (g.tdiv 1000), true)
  | .trainSum, false => ({ v with cleanStreak := 0, gramRem := 0 }, none, false)

/-- R10, R11: the second's mass and heat, while SEEDED. -/
def Inventory.account (v : Inventory) (cfg : Cfg) (mass : Int) (before : Inventory) : Inventory :=
  if v.seeded then
    { v with
      mass := intoRange massTop ((v.mass : Int) + mass)
      heat := .of fun st => intoRange (cfg.capacity.get st)
        ((v.heat.get st : Int) + (cfg.hc * before.reported .compress st : Nat)
          - (cfg.hd * before.reported .expand st : Nat)) }
  else v

/-- R11: some store reached 0 or its capacity in this step. -/
def heatLimited (cfg : Cfg) (before after : Inventory) : Bool :=
  storeList.any fun st =>
    (after.heat.get st == 0 && decide (0 < before.heat.get st))
      || (after.heat.get st == cfg.capacity.get st && decide (before.heat.get st < cfg.capacity.get st))

/-- What a judged window answers (R15, R16). -/
structure Verdict where
  inv : Inventory
  raised : Bool
  gross : Bool

/-- R15..R17: the window is judged. -/
def Inventory.judgeWindow (v : Inventory) (cfg : Cfg) : Verdict :=
  let d := (v.sumWellhead - v.sumTrains).natAbs
  let tol := cfg.tAbs + (v.throughput * cfg.tRel / 1000).toNat
  if d ≤ tol then
    let streak := min 3 (v.passStreak + 1)
    let clears := streak == 3 && v.reconFault
    ⟨{ v.emptyWindow with passStreak := streak, reconFault := v.reconFault && !clears }, clears, false⟩
  else ⟨{ v.emptyWindow with passStreak := 0, reconFault := true }, !v.reconFault, decide (4 * tol < d)⟩

/-- R14, R15: a valid second under WELLHEAD while SEEDED is added to the window, which is judged when it is full. -/
def Inventory.reconcile (v : Inventory) (cfg : Cfg) (wellhead : Option Int) (ac ax : Nat) : Verdict :=
  match v.seeded, v.source, wellhead with
  | true, .wellhead, some w =>
    let u := { v with sumWellhead := v.sumWellhead + w, sumTrains := v.sumTrains + ac - ax,
                      throughput := v.throughput + ac + ax, windowSeconds := v.windowSeconds + 1 }
    if cfg.window ≤ u.windowSeconds then u.judgeWindow cfg else ⟨u, false, false⟩
  | _, _, _ => ⟨v, false, false⟩

/-- The mass a second moves (Table 1-4): the wellhead's where there is one, else the train sum. -/
def secondMass (wellhead : Option Int) (ac ax : Nat) : Int :=
  match wellhead with
  | some w => w
  | none => (ac : Int) - ax

/-- R10: the accumulators and the decoder start the next second. -/
def Inventory.nextSecond (v : Inventory) : Inventory :=
  { v with acc := .all (.all 0), netCount := 0, secondValid := true }

/-- R10..R12: the inventory's part of an accounting second: its state after it, and whether RECON is raised by the
source, by the window, HEAT_LIMIT is raised, and HOLD is asked for. -/
structure SecondResult where
  inv : Inventory
  source : Bool
  window : Bool
  limit : Bool
  gross : Bool

def Inventory.second (v : Inventory) (cfg : Cfg) : SecondResult :=
  let j := v.judgeSource cfg
  let ac := v.reportedAll .compress
  let ax := v.reportedAll .expand
  let u := j.1.nextSecond.account cfg (secondMass j.2.1 ac ax) v
  let w := u.reconcile cfg j.2.1 ac ax
  ⟨w.inv, j.2.2, w.raised, v.seeded && heatLimited cfg v u, w.gross⟩

/-- R10..R12: the accounting second, with what it hands to the neighbouring blocks, in order: reconciliation and its
hold request (R16), headroom (R22), the gates (R123). -/
def State.accountingSecond (s : State) : State :=
  let r := s.inv.second s.store.cfg
  let t := { s with inv := r.inv }
  let t := if r.source || r.window then t.raiseRecon else t
  let t := if r.limit then t.raiseOn [.pa, .pb] .heatLimit else t
  let t := if r.gross then t.holdCondition else t
  t.recomputeHeadroom.onPlant fun env p => p.evaluateGates env

/-- R13: one interval's standing loss, while SEEDED. -/
def Inventory.standingLoss (v : Inventory) (cfg : Cfg) : Inventory :=
  if v.seeded then
    { v with heat := .of fun st => v.heat.get st - v.heat.get st * cfg.lossPpm.get st / 1000000 }
  else v

/-- R13, R22: standing loss, and the headroom that follows it. -/
def State.standingLoss (s : State) : State :=
  ({ s with inv := s.inv.standingLoss s.store.cfg } : State).recomputeHeadroom

/-- R19: the account is replaced. -/
def Inventory.seed (v : Inventory) (cfg : Cfg) (kg : Nat) (heat : PerStore Nat) : Inventory :=
  { v.emptyWindow with
    mass := min kg massTop
    heat := .of fun st => min (heat.get st) (cfg.capacity.get st)
    seeded := true
    acc := .all (.all 0)
    gramRem := 0
    netCount := 0
    passStreak := 0
    reconFault := match v.source with
      | .wellhead => false
      | .trainSum => true }

/-- R19: some value of the seed was clamped. -/
def seedClamped (cfg : Cfg) (kg : Nat) (heat : PerStore Nat) : Bool :=
  decide (massTop < kg) || storeList.any fun st => decide (cfg.capacity.get st < heat.get st)

end Sys2Proof.Machine
end

