-- ==== Sys2Proof/Machine/Book.lean ====
section
/-! DEFINITION. The Book Unit (03_the_commitment_book.md): slots, checks on market requests, the day page, blackout windows, activation and closing. -/

namespace Sys2Proof.Machine

/-- A slot record is replaced. -/
def Book.setSlot (b : Book) (n : Nat) (x : Slot) : Book :=
  { b with slots := b.slots.set (n % 192) x (Nat.mod_lt _ (by decide)) }

def State.setSlot (s : State) (n : Nat) (x : Slot) : State := { s with book := s.book.setSlot n x }

/-- R44: a record re-tagged to an interval. -/
def Slot.retagged (n : Nat) : Slot := { Slot.empty with state := .opened, tag := n }

/-- The record of an interval, re-tagged when its tag differs or it is FREE (R44). -/
def Book.tagged (b : Book) (n : Nat) : Slot := if (b.slot n).holds n then b.slot n else .retagged n

/-- OPEN with three zeros, FIRM otherwise (Table 3-3). -/
def Vals.slotState (v : Vals) : SlotState := if v = .zero then .opened else .firm

/-- R45, R46, R48: the record after an accepted write. A changed FIRM slot counts a revision, held at 15. -/
def Slot.written (x : Slot) (v : Vals) : Slot :=
  { x with vals := v, state := v.slotState,
           revisions := if x.state = .firm ∧ x.vals ≠ v then min 15 (x.revisions + 1) else x.revisions }

/-- R48: an accepted write of an interval's values. -/
def State.writeSlot (s : State) (n : Nat) (v : Vals) : State := s.setSlot n ((s.book.tagged n).written v)

/-- R49: the ranges of the three values. -/
def Vals.inRange (v : Vals) : Bool :=
  decide (-1000000 ≤ v.e) && decide (v.e ≤ 1000000) && decide (0 ≤ v.up) && decide (v.up ≤ 1000000)
    && decide (0 ≤ v.dn) && decide (v.dn ≤ 1000000)

/-- R50: the ranges of the deltas. -/
def Vals.deltaInRange (v : Vals) : Bool :=
  decide (-2000000 ≤ v.e) && decide (v.e ≤ 2000000) && decide (-1000000 ≤ v.up) && decide (v.up ≤ 1000000)
    && decide (-1000000 ≤ v.dn) && decide (v.dn ≤ 1000000)

def Vals.add (v w : Vals) : Vals := ⟨v.e + w.e, v.up + w.up, v.dn + w.dn⟩

/-- R55: the hit flag of every window that blocks the values is set; setting one that was clear raises WINDOW_HIT on PA
and PB. -/
def State.hitWindows (s : State) (n : Nat) (v : Vals) : State :=
  let fresh := s.book.windows.toList.any fun w => w.blocks n v && !w.hit
  let hit := fun w : Window => if w.blocks n v then { w with hit := true } else w
  let ws := s.book.windows
  let t := { s with book := { s.book with windows := #v[hit ws[0], hit ws[1], hit ws[2], hit ws[3]] } }
  if fresh then t.raiseOn [.pa, .pb] .windowHit else t

/-- The number of the lowest-numbered window that blocks the values (Table 3-4 note 3). -/
def State.blockingWindow (s : State) (n : Nat) (v : Vals) : Nat := s.book.windows.toList.findIdx fun w => w.blocks n v

/-- What a market change is answered. -/
inductive Ruling
  | accepted
  | refused (status : Status)
  | blackout (window : Nat)
  | infeasible (interval : Nat) (reason : Reason)
  deriving DecidableEq, Repr

/-- R47: the first interval that is changeable is the one after this. -/
def State.leadEnd (s : State) : Nat := s.tb.current + s.store.cfg.lead

/-- The interval lies in the open page's day (Table 3-4 check 5). -/
def State.inPage (s : State) (n : Nat) : Bool :=
  match s.book.page with
  | some p => n / 96 == p.day
  | none => false

/-- The revisions an interval is judged to have (R46). -/
def Book.revisions (b : Book) (n : Nat) : Nat := if (b.slot n).holds n then (b.slot n).revisions else 0

/-- Table 3-4: the checks on a single-interval change to `v`; `ranges` is check 2, `limited` is false for WITHDRAW. -/
def State.ruleChange (s : State) (n : Nat) (v : Vals) (ranges limited : Bool) : Ruling :=
  if !s.tb.synced then .refused .notSynced
  else if !ranges then .refused .badValue
  else if s.tb.current + 191 < n then .refused .badValue
  else if n ≤ s.leadEnd then .refused .tooLate
  else if s.inPage n then .refused .pageOpen
  else if s.book.vals n = v then .accepted
  else if limited && decide (15 ≤ s.book.revisions n) then .refused .revisionLimit
  else if s.book.blackout n v then .blackout (s.blockingWindow n v)
  else match s.judge [(n, v)] with
    | some (m, r) => .infeasible m r
    | none => .accepted

/-- R48, R55: what a ruling does: an accepted change is written, a BLACKOUT refusal sets hit flags. -/
def State.applyRuling (s : State) (n : Nat) (v : Vals) : Ruling → State
  | .accepted => s.writeSlot n v
  | .blackout _ => s.hitWindows n v
  | .refused _ | .infeasible _ _ => s

/-- R61: the slot of an interval is activated. -/
def State.activate (s : State) (n : Nat) : State :=
  let x := s.book.tagged n
  let f := s.effective n x.vals
  let t := s.setSlot n { x with state := .active, eff := some f, deviation := none }
  if f.curtailment = 0 then t else t.raise .mk .curtailed

/-- R63: the slot of an interval is closed, if it is ACTIVE. -/
def State.closeSlot (s : State) (n : Nat) : State :=
  let x := s.book.slot n
  match x.state, x.eff with
  | .active, some f => s.setSlot n { x with state := .closed, deviation := some ((f.deliveredNet - f.activated).tdiv 3600 - f.e) }
  | _, _ => s

/-- R62: the held power of the expanders less that of the compressors. -/
def Plant.netPower (p : Plant) : Int :=
  ((trainsOf .expand).foldl (fun n t => n + (p.train t).power) 0 : Nat)
    - ((trainsOf .compress).foldl (fun n t => n + (p.train t).power) 0 : Nat)

/-- R62: the second just ended is added to the active slot. -/
def State.accumulate (s : State) : State :=
  let x := s.book.slot s.tb.current
  match x.state, x.eff with
  | .active, some f => s.setSlot s.tb.current { x with eff := some { f with
      deliveredNet := f.deliveredNet + s.plant.netPower, activated := f.activated + s.res.a } }
  | _, _ => s

/-! ## Day pages -/

/-- R57: the entries of a day, filled from the book. -/
def Book.dayEntries (b : Book) (d : Nat) : List Vals := (List.range 96).map fun i => b.vals (96 * d + i)

/-- R57: the first offset of the day that is changeable. -/
def State.firstOffset (s : State) (d : Nat) : Nat := s.leadEnd + 1 - 96 * d

/-- R59 steps 1 and 2: the differing entries of a page, as interval and values. -/
def Book.differing (b : Book) (p : Page) : List (Nat × Vals) :=
  ((List.range 96).map fun i => (96 * p.day + i, p.entries.getD i .zero)).filter fun x => x.2 != b.vals x.1

/-- R59: what the close of a page is answered. -/
inductive CloseRuling
  | accepted (skipped : Nat) (changes : List (Nat × Vals))
  | noPage
  | limited (interval : Nat)
  | infeasible (interval : Nat) (reason : Reason)
  deriving DecidableEq, Repr

/-- R59 steps 1 to 4. -/
def State.ruleClose (s : State) : CloseRuling :=
  match s.book.page with
  | none => .noPage
  | some p =>
    let diff := s.book.differing p
    let changes := diff.filter fun x => decide (s.leadEnd < x.1)
    match changes.find? fun x => decide (15 ≤ s.book.revisions x.1) with
    | some x => .limited x.1
    | none => match s.judge changes with
      | some (n, r) => .infeasible n r
      | none => .accepted (diff.length - changes.length) changes

/-- R59 step 5, R60: the page closes. -/
def State.dropPage (s : State) : State := { s with book := { s.book with page := none } }

/-- R59 step 5: the changes are written and the page closes. -/
def State.writeChanges (s : State) (changes : List (Nat × Vals)) : State :=
  (changes.foldl (fun t x => t.writeSlot x.1 x.2) s).dropPage

/-- R55, R172: the hit flags of all four windows are cleared. -/
def State.clearHits (s : State) : State :=
  let ws := s.book.windows
  let clear := fun w : Window => { w with hit := false }
  { s with book := { s.book with windows := #v[clear ws[0], clear ws[1], clear ws[2], clear ws[3]] } }

end Sys2Proof.Machine
end

