-- ==== Sys2Proof/Machine/Clock.lean ====
section
/-! DEFINITION. The Sweep (04_book_sweep.md), the Timebase second and the interval turn (R40, R43), the timers' running out (R100, R135, R163), and
time setting (R41, R42). -/

namespace Sys2Proof.Machine

/-! ## Sweep -/

/-- R67: a cycle starts at the current interval. -/
def Sweep.start (w : Sweep) (current : Nat) : Sweep := { w with base := current, pointer := 0, carried := none }

def State.sweepStart (s : State) : State := { s with sweep := s.sweep.start s.tb.current }

/-- R66, R67: an event that starts a cycle while the Sweep is RUNNING, or makes it RUNNING. -/
def State.sweepBegin (s : State) : State :=
  if s.tb.synced && s.inv.seeded then { s with sweep := { s.sweep.start s.tb.current with running := true } } else s

/-- R69: a step's result is written into the slot stepped. -/
def State.markRisk (s : State) (n : Nat) (r : Option Reason) : State :=
  let x := s.book.slot n
  if x.holds n then
    let t := s.setSlot n { x with risk := r }
    if r.isSome && x.risk.isNone then t.raise .mk .newAtRisk else t
  else s

/-- R68: the values and the power of the slot the Sweep steps. -/
def State.sweepVals (s : State) : Vals × Int :=
  if s.sweep.pointer = 0 then (s.activeVals, 4 * s.active.e)
  else
    let v := s.book.vals (s.sweep.base + s.sweep.pointer)
    (v, 4 * v.e)

/-- R68: the carried state a step uses: formed at pointer 0, else the one left by the step before it. -/
def State.sweepCarried (s : State) : Carried :=
  if s.sweep.pointer = 0 then s.startCarried else s.sweep.carried.getD s.startCarried

/-- R68..R70: one step of the Sweep. -/
def State.sweepStep (s : State) : State :=
  let c := s.sweepCarried
  let v := s.sweepVals
  let n := s.sweep.base + s.sweep.pointer
  let t := s.markRisk n (stepReason s.store.cfg s.head s.book c n v.1 v.2)
  if s.sweep.pointer < 191 then
    { t with sweep := { t.sweep with pointer := s.sweep.pointer + 1, carried := some (c.after s.store.cfg v.1.e) } }
  else
    { t with sweep := { t.sweep.start t.tb.current with cycles := (t.sweep.cycles + 1) % 65536 } }

/-- R68, R71: the Sweep's per-second event. -/
def State.sweepSecond (s : State) : State :=
  if !s.sweep.running then s
  else if s.sweep.base = s.tb.current then s.sweepStep
  else s.sweepStart

/-- R71: the Sweep's reaction to the interval turn; a cycle already started at the new interval is left. -/
def State.sweepTurn (s : State) : State :=
  if s.sweep.running && s.sweep.base != s.tb.current then s.sweepStart else s

/-! ## The interval turn -/

/-- R43: the turn: the active slot closes, the interval advances, the new slot activates and the Reserve Unit takes its
holding; standing loss is reckoned at the place the free choice gives (log 5). -/
def State.turn (s : State) : State :=
  let place := Config.lossPlace s.free
  let s := { s with free := s.free + 1 }
  let s := s.closeSlot s.tb.current
  let s := { s with tb := { s.tb with current := s.tb.current + 1, second := 0 } }
  let s := if place = 0 then s.standingLoss else s
  let s := s.activate s.tb.current
  let s := if place = 1 then s.standingLoss else s
  let s := s.takeHolding
  if place = 2 then s.standingLoss else s

/-- R71: the Sweep in a second with a turn, in the order the free choice gives (log 6). -/
def State.sweepAtTurn (s : State) : State :=
  if Config.sweepTurnFirst s.free then s.sweepTurn.sweepSecond else s.sweepSecond.sweepTurn

/-- R40: the Book Unit's per-second event, and the Sweep's. -/
def State.bookSecond (s : State) : State :=
  let s := s.accumulate
  if s.tb.second + 1 < 900 then
    ({ s with tb := { s.tb with second := s.tb.second + 1 } } : State).sweepSecond
  else s.turn.sweepAtTurn

/-! ## Timers running out -/

/-- R164: the timer of one plant link has run out while the other's was already EXPIRED. -/
def State.bothLost (s : State) (p : Port) : Bool :=
  match otherPlant p with
  | some q => s.prot.timers.get q == .expired
  | none => false

def State.setTimer (s : State) (p : Port) (t : LinkTimer) : State :=
  { s with prot := { s.prot with timers := s.prot.timers.set p t } }

/-- R169: the repeat memory of a port is cleared. -/
def State.forget (s : State) (p : Port) : State :=
  { s with ports := s.ports.set p { s.ports.get p with memory := none } }

/-- R143, R163, R164: a plant link is lost. -/
def State.losePlantLink (s : State) (p : Port) : State :=
  let t := s.onPlant fun env q => q.loseTrains env.cfg p
  let t := match otherPlant p with
    | some q => t.raise q .otherLinkLost
    | none => t
  if s.bothLost p then t.holdCondition else t

/-- R163: the consequences of a link timer's running out. -/
def State.linkLost (s : State) (p : Port) : State :=
  let t := (s.setTimer p .expired).forget p
  match p with
  | .pa | .pb => t.losePlantLink p
  | .mk => match t.book.page with
    | some _ => t.dropPage.raise .mk .pageDropped
    | none => t
  | .gr => t.endActivation

/-- R163: a link timer that has reached 0 runs out. -/
def State.linkOut (s : State) (p : Port) : State := if s.prot.timers.get p = .running 0 then s.linkLost p else s

/-- R163: one Timebase second on a link timer. -/
def LinkTimer.second : LinkTimer → LinkTimer
  | .running n => .running (n - 1)
  | t => t

/-- R100: a budget that stands at 0 runs out, with its passes. -/
def State.entryDue (s : State) (e : Entry) : State := (s.onPlant fun env p => p.budgetOut env e).dispatch

/-- R135..R140: each timer of a train that stands at 0 runs out, with its passes. -/
def State.trainDue (s : State) (t : Train) : State :=
  ((((s.onPlant fun env p => p.startWindowOut env t).dispatch.onPlant fun env p =>
    p.stopWindowOut env t).dispatch.onPlant fun env p => p.inhibitOut env t).dispatch.onPlant fun env p =>
    p.feedbackOut env t).dispatch

/-- R163: a link timer that stands at 0 runs out, with its passes. -/
def State.portDue (s : State) (p : Port) : State := (s.linkOut p).dispatch

/-- The events left over from the last second are taken before a second begins: budgets, then each train's timers,
then the link timers (log 3). -/
def State.takeDue (s : State) : State :=
  portList.foldl State.portDue (trainList.foldl State.trainDue (entryList.foldl State.entryDue s))

/-- R100, R135, R163: a Timebase second on every timer and budget. -/
def State.tickTimers (s : State) : State :=
  { s with
    plant := s.plant.second
    prot := { s.prot with timers := .of fun p => (s.prot.timers.get p).second } }

/-- The Timebase second itself: the timers, the Reserve Unit's wait, the Book Unit's event and the Sweep's (log 8). -/
def State.secondBody (s : State) : State :=
  let s := s.tickTimers
  if s.tb.synced then s.reserveSecond.bookSecond else s

/-- R40: one Timebase second: the events left over, what follows them, and the second (log 3). -/
def State.timebaseSecond (s : State) : State :=
  s.takeDue.settle.secondBody

/-- The coming second turns the interval (R40). -/
def State.turns (s : State) : Bool := s.tb.synced && decide (899 ≤ s.tb.second)

/-- The coming second completes a sweep cycle (R70). -/
def State.completesCycle (s : State) : Bool :=
  s.tb.synced && decide (s.tb.second < 899) && s.sweep.running && s.sweep.base == s.tb.current
    && decide (191 ≤ s.sweep.pointer)

/-- The coming second brings the placement wait to 60 (R86). -/
def State.waitEnds (s : State) : Bool := s.tb.synced && s.waitCounts && s.res.wait == 59

/-! ## Setting the time -/

/-- R41: the first SYNC_TIME. -/
def State.firstSync (s : State) (n sec : Nat) : State :=
  let s := { s with tb := ⟨true, n, sec⟩ }
  (s.activate n).takeHolding.sweepBegin

/-- R42: a trim of the second. -/
def State.trim (s : State) (sec : Nat) : State := { s with tb := { s.tb with second := sec } }

end Sys2Proof.Machine
end

