-- ==== Sys2Proof/Machine/Links.lean ====
section
/-! DEFINITION. Taking a request frame and answering it (10_links_requests_and_answers.md, R163, R168..R170, R175): the reply of a serving block, the
checks a port makes, the repeat memory, the answer frame. -/

namespace Sys2Proof.Machine

/-- The fields of an answer payload, in order (R174). -/
abbrev Fields := List (Field × Int)

/-- What the serving block makes of a request: the state it leaves, the status, the answer's fields, formed from the
state as it stands when the request has been taken (R169), and whether the answer waits for the image write (R179). -/
structure Reply where
  state : State
  status : Status
  fields : State → Fields
  deferred : Bool

/-- A refusal without payload that changes nothing (R170). -/
def refuse (st : Status) (s : State) : Reply := ⟨s, st, fun _ => [], false⟩

/-- A request taken, with its status and answer fields. -/
def taken (s : State) (st : Status) (fields : State → Fields) : Reply := ⟨s, st, fields, false⟩

/-- A row of the request catalogue (Table 10-4): its code, the links it is permitted on, the sizes of its fields, and
the serving block's part. -/
structure RequestRow where
  code : Byte
  permitted : Port → Bool
  format : List Field
  body : Port → List Int → State → Reply

/-- R169 checks 2, 3 and 5. -/
def RequestRow.take (r : RequestRow) (p : Port) (payload : List Byte) (s : State) : Reply :=
  if r.permitted p then
    match readFields r.format payload with
    | some vs => r.body p vs s
    | none => refuse .badValue s
  else refuse .notPermitted s

/-- R169 check 1. -/
def takeUnknown (s : State) : Reply := refuse .unknown s

/-! ## The port -/

def State.port (s : State) (p : Port) : LinkPort := s.ports.get p
def State.modPort (s : State) (p : Port) (f : LinkPort → LinkPort) : State :=
  { s with ports := s.ports.set p (f (s.ports.get p)) }

/-- An answer is being sent, or has not yet begun (R166). -/
def PortAnswer.outstanding : PortAnswer → Bool
  | .none => false
  | .awaited _ | .sending _ _ => true

/-- What the repeat memory compares (R169). -/
def frameKey (code : Byte) (f : Frame) : FrameKey := ⟨f.seq, code, f.payload.length, f.crc code⟩

/-- A frame discarded whole: the receiver waits for an idle line (R166). -/
def LinkPort.skipFrame (k : LinkPort) : LinkPort := { k with rx := .skip, lineIdle := false, buffer := [] }

/-- The receiver after the last byte of a frame (R166). -/
def LinkPort.frameEnd (k : LinkPort) : LinkPort := { k with rx := .hunt, lineIdle := false, buffer := [] }

/-- R163: a well-formed frame reloads its link's timer; out of EXPIRED it is a recovery, a dispatch event, whose pass reads
the trains as the frame's request leaves them (R144, section 8.10, log 23). -/
def State.reloadTimer (s : State) (p : Port) : State :=
  let t := s.setTimer p (.running (s.store.cfg.linkLength.get p))
  if s.prot.timers.get p = .expired then { t with plant := t.plant.event } else t

/-- What receiving a well-formed frame does before its request is taken (R166, R168). -/
def State.received (s : State) (p : Port) : State := (s.modPort p LinkPort.frameEnd).reloadTimer p

/-- R169: the answer formed from the state as it stands when the request has been taken. -/
def State.formAnswer (s : State) (code : Byte) (f : Frame) (status : Status) (fields : State → Fields) : Answer :=
  ⟨f.seq, code, status, (s.plant.causes.get f.port).flags, writeFields (fields s)⟩

def State.setAnswer (s : State) (p : Port) (a : PortAnswer) : State := s.modPort p fun k => { k with answer := a }

/-- The end of a request's step: what follows the state it leaves, and the answer, whose transmission begins at once
unless it is deferred (R169, R179). Its fields and cause flags are formed after the passes of the step (DESIGN CHOICE,
log 34). -/
def State.reply (code : Byte) (f : Frame) (r : Reply) : State :=
  let t := r.state.finish
  t.setAnswer f.port
    (if r.deferred then .awaited (frameKey code f) else .sending (frameKey code f) (t.formAnswer code f r.status r.fields))

/-- The stored answer, when the frame is a repeat (R169). -/
def LinkPort.recalls (k : LinkPort) (key : FrameKey) : Option Answer :=
  match k.memory with
  | some m => if m.1 = key then some m.2 else none
  | none => none

/-- R166, R168, R169: a well-formed frame of a code, with the checks and the serving block's part as `take`. While RSTN
is low or the supply is off nothing is received (R180); a frame that begins while an answer is outstanding, or whose
length is above 120, is discarded (R166). -/
def State.serve (s : State) (code : Byte) (f : Frame) (take : State → Reply) : State :=
  match s.supply with
  | .held | .off => s
  | .running =>
    if (s.port f.port).answer.outstanding || decide (120 < f.payload.length) then s.modPort f.port LinkPort.skipFrame
    else match (s.port f.port).recalls (frameKey code f) with
      | some a => ((s.received f.port).finish).setAnswer f.port (.sending (frameKey code f) a)
      | none => State.reply code f (take (s.received f.port))

/-- A frame of a row of the catalogue. -/
def State.request (s : State) (r : RequestRow) (f : Frame) : State := s.serve r.code f (r.take f.port f.payload)

/-! ## The answer frame -/

/-- Table 10-6. -/
def Status.code : Status → Nat
  | .ok => 0 | .clamped => 1 | .unknown => 2 | .notPermitted => 3 | .mode => 4 | .badValue => 5 | .notSeeded => 6
  | .notSynced => 7 | .infeasible => 8 | .tooLate => 9 | .pageOpen => 10 | .noPage => 11 | .blackout => 12
  | .notOwner => 13 | .tableFull => 14 | .timeStep => 15 | .revisionLimit => 16 | .configInvalid => 17

/-- The bytes of an answer that its CRC covers (R167). -/
def Answer.body (a : Answer) : List Byte :=
  a.seq :: a.code :: BitVec.ofNat 8 a.status.code
    :: natBytes 2 a.causes.toNat ++ BitVec.ofNat 8 a.payload.length :: a.payload

/-- An answer frame on the line (Table 10-3). -/
def Answer.wire (a : Answer) : List Byte := 0xB4#8 :: a.body ++ natBytes 2 (crc16 a.body).toNat

/-- R169: the transmission of the answer is complete; the repeat memory holds the frame and the answer. -/
def LinkPort.sent (k : LinkPort) : LinkPort :=
  match k.answer with
  | .sending key a => { k with answer := .none, memory := some (key, a) }
  | .none | .awaited _ => k

/-- R166: the line has been idle for 1 ms. -/
def LinkPort.idle (k : LinkPort) : LinkPort := { k with rx := .hunt, lineIdle := true, buffer := [] }

end Sys2Proof.Machine
end

