-- ==== Sys2Proof/Machine/Records.lean ====
section
/-! DEFINITION. The records as answers carry them (R174): codes of the enumerations, Tables 10-7 to 10-9, and the payloads of the queries. A layout
that the spec does not give beyond the list of its fields follows log 12 and log 13. -/

namespace Sys2Proof.Machine

/-! ## Codes: the position in the list the record table gives (R174) -/

def Owner.fieldCode (o : Owner) : Int := o.code
def MassSource.code : MassSource → Int
  | .wellhead => 0 | .trainSum => 1
def Reason.code : Reason → Int
  | .floor => 0 | .heatEmpty => 1 | .ceiling => 2 | .heatFull => 3 | .powerUp => 4 | .powerDown => 5 | .blackout => 6
def SlotState.code : SlotState → Int
  | .free => 0 | .opened => 1 | .firm => 2 | .active => 3 | .closed => 4
def Origin.code : Origin → Int
  | .book => 0 | .grid => 1 | .service => 2
def OrderState.code : OrderState → Int
  | .free => 0 | .ready => 1 | .waiting => 2 | .staged => 3 | .current => 4 | .retired => 5
def RetireCause.code : RetireCause → Int
  | .retarget => 0 | .budgetEnd => 1 | .withdrawn => 2 | .trip => 3 | .inhibit => 4 | .heatExhausted => 5
  | .heatFull => 6 | .isolated => 7
def TrainState.code : TrainState → Int
  | .offline => 0 | .idle => 1 | .starting => 2 | .running => 3 | .stopping => 4 | .fault => 5 | .lost => 6
def Command.code : Command → Int
  | .run => 0 | .stop => 1 | .none => 2
def Reported.code : Reported → Int
  | .stopped => 0 | .starting => 1 | .running => 2 | .stopping => 3 | .unavailable => 4
def reportedOf? (n : Int) : Option Reported :=
  match n with
  | 0 => some .stopped | 1 => some .starting | 2 => some .running | 3 => some .stopping | 4 => some .unavailable
  | _ => none
def FaultCause.code : FaultCause → Int
  | .startTimeout => 0 | .stopTimeout => 1 | .feedbackMismatch => 2 | .reported => 3
/-- The order of Table 9-4's rows (DESIGN CHOICE, log 36). -/
def PlantMode.code : PlantMode → Int
  | .setup => 0 | .normal => 1 | .hold => 2 | .trip => 3
/-- The order of R178's text (DESIGN CHOICE, log 36). -/
def LoadOutcome.code : LoadOutcome → Int
  | .image => 0 | .defaults => 1
def Window.forbidMask (w : Window) : Nat := maskOf [w.noDischarge, w.noCharge, w.noUp, w.noDown]

/-- A flag as a field: 1 when set. Its table lists 'clear, set' (R174), or no table lists it (log 13). -/
def flag (b : Bool) : Int := if b then 1 else 0

/-- R174: a field whose table lists 'set, clear' (RECON_FAULT, Table 1-1) or 'true, false' (the placement indication,
Table 6-2), by position in that list. -/
def setFirst (b : Bool) : Int := if b then 0 else 1

/-- An optional field: its code, or 0 when it is absent (R174). -/
def optional {α : Type} (f : α → Int) (o : Option α) : Int :=
  match o with
  | some a => f a
  | none => 0

def natOptional (o : Option Nat) : Int := optional (fun n : Nat => (n : Int)) o

/-! ## Records -/

/-- Tables 3-1 and 10-7: the current interval and the second in interval. -/
def State.clockFields (s : State) : Fields := [(.u4, s.tb.current), (.u2, s.tb.second)]

/-- The presence byte of a slot record (Table 10-7 byte 11). -/
def Slot.presence (x : Slot) : Nat := maskOf [x.state != .free, x.risk.isSome, x.eff.isSome, x.deviation.isSome]

/-- Table 10-7 byte 25. -/
def Slot.riskByte (x : Slot) : Int :=
  match x.risk with
  | some r => 128 + r.code
  | none => 0

/-- Table 10-7, but for the interval and second. -/
def Slot.fields (x : Slot) : Fields :=
  let f := x.eff.getD ⟨0, 0, 0, 0, 0, 0⟩
  [(.u4, x.tag), (.u1, x.state.code), (.u1, x.presence), (.s4, x.vals.e), (.u4, x.vals.up), (.u4, x.vals.dn),
   (.u1, x.revisions), (.u1, x.riskByte), (.s4, f.e), (.u4, f.up), (.u4, f.dn), (.s4, f.curtailment),
   (.s8, f.deliveredNet), (.s8, f.activated), (.s8, x.deviation.getD 0)]

/-- The store in use: the current order's (R149). -/
def Plant.storeInUse (p : Plant) (t : Train) : Option Store := (p.train t).current.map fun e => (p.ord e).store

/-- Table 10-8 byte 3. -/
def State.trainFlags (s : State) (t : Train) : Nat :=
  let r := s.plant.train t
  maskOf [s.prot.latch.get t, r.fresh, (s.plant.storeInUse t).isSome, r.cap.isSome, r.fault.isSome, r.reported.isSome]

/-- Table 10-8: the entry of a train. -/
def State.trainFields (s : State) (t : Train) : Fields :=
  let r := s.plant.train t
  [(.u1, trainCode t), (.u1, r.state.code), (.u1, r.command.code), (.u1, s.trainFlags t), (.u4, r.posted),
   (.u1, optional (fun x => (storeCode x : Int)) (s.plant.storeInUse t)), (.u4, natOptional r.cap),
   (.u1, optional FaultCause.code r.fault), (.u4, r.power), (.u1, optional Reported.code r.reported),
   (.u2, natOptional r.inhibit), (.u2, r.starts)]

/-- Table 10-8 note 2: the two bytes of a gate. -/
def State.gateFields (s : State) (g : Store × Kind) : Fields :=
  let x := s.plant.gate g
  [(.u1, flag x.isOpen + 2 * x.holders.length + 16 * s.store.cfg.outlets g.1 g.2), (.u1, x.wait.length)]

/-- Table 10-8 note 1: CHARGE_INHIBIT, DISCHARGE_INHIBIT and ISOLATED. -/
def Protection.inhibitByte (p : Protection) : Nat :=
  maskOf [p.chargeInhibit, p.dischargeInhibit, p.isolated.s0, p.isolated.s1, p.isolated.s2]

/-- The trains a link owns, in order (R149). -/
def Cfg.ownedBy (c : Cfg) (p : Port) : List Train :=
  trainList.filter fun t => (c.owner.get t).port? == some p

/-- R149: the POLL payload. -/
def State.pollFields (s : State) (p : Port) : Fields :=
  let mine := s.store.cfg.ownedBy p
  [(.u1, (mine.length : Int))] ++ mine.flatMap s.trainFields
    ++ [(.u1, s.prot.mode.code), (.u1, s.prot.inhibitByte)] ++ gateList.flatMap s.gateFields

/-- Table 10-9 byte 7. -/
def Order.presence (o : Order) : Nat :=
  maskOf [o.bound.isSome, o.owner.isSome, o.lastTrain.isSome, o.budget.isSome, o.train.isSome, o.cause.isSome,
          o.stagedAt.isSome, o.currentAt.isSome]

/-- The bar set over the four trains of the order's kind (Table 10-9 note 1). -/
def Order.barMask (o : Order) : Nat := maskOf ((trainsOf o.kind).map fun t => o.bars.get t)

def optionalTrain (o : Option Train) : Int := optional (fun t => (trainCode t : Int)) o

/-- Table 10-9. -/
def Order.fields (o : Order) (e : Entry) : Fields :=
  [(.u2, o.id), (.u1, (e.val : Int)), (.u1, o.origin.code), (.u1, kindCode o.kind), (.u1, o.priority),
   (.u1, o.state.code), (.u1, o.presence), (.u4, o.setpoint), (.u1, storeCode o.store), (.u1, optionalTrain o.bound),
   (.u1, optional (fun q => (portCode q : Int)) o.owner), (.u1, o.barMask), (.u1, optionalTrain o.lastTrain),
   (.u2, natOptional o.budget), (.u1, optionalTrain o.train), (.u1, optional RetireCause.code o.cause),
   (.u8, o.created), (.u8, natOptional o.stagedAt), (.u8, natOptional o.currentAt), (.u8, natOptional o.retiredAt)]

/-! ## Queries -/

/-- A target's power, 0 for none. -/
def targetPower (t : Target) : Int := optional (fun x => (x.2 : Int)) t
/-- A target's kind as Table 6-1 lists the kinds. -/
def targetKind (t : Target) : Int := optional (fun x => (kindCode x.1 : Int)) t
/-- A target's kind as Table 5-1 lists the kinds: EXPAND, COMPRESS (log 13). -/
def reserveKindCode : Kind → Int
  | .expand => 0 | .compress => 1
def targetKindReserve (t : Target) : Int := optional (fun x => reserveKindCode x.1) t

/-- The number of orders in a condition. -/
def Plant.countIn (p : Plant) (st : OrderState) : Nat := (entryList.filter fun e => (p.ord e).state == st).length

/-- R116: the dispatch summary. Its layout is log 12's, a DESIGN CHOICE: a presence byte for the four kinds, a byte with the
number of READY ids, the ids, the six condition counts in Table 6-1's order, the held targets with their kinds, the
effective targets with theirs, the short mark, the placement indication. -/
def State.summaryFields (s : State) : Fields :=
  let p := s.plant
  let eb := s.env.effectiveTarget p.heldBook
  let eg := s.env.effectiveTarget p.heldGrid
  [(.u1, (maskOf [p.heldBook.isSome, p.heldGrid.isSome, eb.isSome, eg.isSome] : Int)), (.u1, (p.ready.length : Int))]
    ++ p.ready.map (fun e => (.u2, ((p.ord e).id : Int)))
    ++ [OrderState.free, .ready, .waiting, .staged, .current, .retired].map (fun st => (.u1, (p.countIn st : Int)))
    ++ [(.u4, targetPower p.heldBook), (.u1, targetKind p.heldBook), (.u4, targetPower p.heldGrid),
        (.u1, targetKind p.heldGrid), (.u4, targetPower eb), (.u1, targetKind eb), (.u4, targetPower eg),
        (.u1, targetKind eg), (.u1, flag p.short), (.u1, setFirst p.placed)]

/-- R20. -/
def State.inventoryFields (s : State) : Fields :=
  let v := s.inv
  ([(.u4, v.mass), (.s2, v.gramRem), (.u1, flag v.seeded), (.u1, v.source.code)] : Fields)
    ++ storeList.flatMap (fun st => ([(.u4, v.heat.get st), (.u4, s.store.cfg.capacity.get st),
        (.u1, flag (s.prot.isolated.get st))] : Fields))
    ++ ([(.u1, v.invalidStreak), (.u1, v.cleanStreak), (.s8, v.sumWellhead), (.s8, v.sumTrains), (.s8, v.throughput),
        (.u2, v.windowSeconds), (.u1, v.passStreak), (.u1, setFirst v.reconFault)] : Fields)

/-- R25, R26: a returned energy figure saturates. -/
def saturated (n : Nat) : Int := (min n headroomTop : Nat)
def saturatedOptional (o : Option Nat) : Int := optional saturated o

/-- R26. The presence byte tells whether E_heat_d and E_heat_c are present. -/
def State.headroomFields (s : State) : Fields :=
  let h := s.head
  [(.u1, (maskOf [h.eHeatD.isSome, h.eHeatC.isSome] : Int)), (.u4, saturated h.d), (.u4, saturated h.c),
   (.u4, saturated h.eAirD), (.u4, saturatedOptional h.eHeatD), (.u4, saturated h.dRaw), (.u4, saturated h.eAirC),
   (.u4, saturatedOptional h.eHeatC), (.u4, saturated h.cRaw), (.u4, h.pxCap), (.u4, h.pcCap),
   (.u1, setFirst s.inv.reconFault), (.u1, s.store.cfg.derate), (.u1, flag s.inv.seeded)]

/-- R74: the at-risk slots of current..current + 191. -/
def State.riskSlots (s : State) : List Slot :=
  s.book.slots.toList.filter fun x =>
    s.tb.synced && x.state != .free && decide (s.tb.current ≤ x.tag) && decide (x.tag ≤ s.tb.current + 191)
      && x.risk.isSome

/-- R74: the at-risk slot of lowest tag. -/
def State.earliestRisk (s : State) : Option Slot := pick (fun x y => decide (x.tag < y.tag)) s.riskSlots

/-- R74. The presence byte tells whether the earliest at-risk interval and its reason are present. -/
def State.sweepFields (s : State) : Fields :=
  let x := s.earliestRisk
  [(.u1, (maskOf [x.isSome, x.isSome] : Int)), (.u1, flag s.sweep.running), (.u4, s.sweep.base),
   (.u1, if s.sweep.running then s.sweep.pointer else 0), (.u2, s.sweep.cycles),
   (.u4, optional (fun y : Slot => (y.tag : Int)) x),
   (.u1, optional (fun y : Slot => optional Reason.code y.risk) x), (.u1, (s.riskSlots.length : Int))]

/-- R87. The presence byte tells whether the BOOK and the GRID target have a kind. -/
def State.activeFields (s : State) : Fields :=
  let f := s.active
  [(.u1, (maskOf [s.res.bookTarget.isSome, s.res.gridTarget.isSome] : Int))] ++ s.clockFields
    ++ [(.s4, f.e), (.u4, f.up), (.u4, f.dn), (.s4, s.res.a), (.s4, s.res.requested), (.s8, f.deliveredNet),
        (.s8, f.activated), (.u4, targetPower s.res.bookTarget), (.u1, targetKindReserve s.res.bookTarget),
        (.u4, targetPower s.res.gridTarget), (.u1, targetKindReserve s.res.gridTarget), (.u1, flag s.res.withheld),
        (.u1, s.res.wait), (.u1, s.prot.mode.code)]

/-- R54: the fields and hit flag of a window. -/
def Window.fields (w : Window) : Fields :=
  [(.u4, w.base), (.u1, w.width), (.u1, w.forbidMask), (.u1, flag w.enabled), (.u1, flag w.hit)]

def State.windowFields (s : State) : Fields := s.book.windows.toList.flatMap Window.fields

/-- R177: the code, the index and the value held. -/
def State.itemFields (code index : Nat) (s : State) : Fields :=
  [(.u1, code), (.u1, index), (.u4, s.store.cfg.read code index)]

/-- R178: the status of the Configuration Store. The check is 1..7, or 0 for NONE; the presence byte tells whether the
check has an index (log 12). -/
def State.storeFields (s : State) : Fields :=
  let x := startCheck s.store.unvalidated s.store.cfg
  let i := x.bind (·.2)
  [(.u1, flag i.isSome), (.u1, flag s.store.unvalidated), (.u1, s.store.outcome.code), (.u1, flag s.store.write.isSome),
   (.u1, optional (fun y : Nat × Option Nat => (y.1 : Int)) x), (.u1, natOptional i)]

/-- The three values of a slot. -/
def Vals.fields (v : Vals) : Fields := [(.s4, v.e), (.u4, v.up), (.u4, v.dn)]

/-- R49, R51: a slot's revisions, after its state for COMMIT. -/
def State.stateAndRevisions (n : Nat) (s : State) : Fields :=
  [(.u1, (s.book.slot n).state.code), (.u1, (s.book.slot n).revisions)]
def State.revisionsOf (n : Nat) (s : State) : Fields := [(.u1, (s.book.slot n).revisions)]

end Sys2Proof.Machine
end

