-- ==== Sys2Proof/Machine/PlantRequests.lean ====
section
/-! DEFINITION. Requests of the plant links served by the Train Table, the Dispatch Unit and the Inventory Unit
(chapters 1, 6, 8): POLL, TRAIN_REPORT, SUBMIT_SERVICE, CANCEL_SERVICE, QUERY_ORDER, QUERY_INVENTORY, SEED_INVENTORY, CLEAR_TRAIN, HANDOVER. -/

namespace Sys2Proof.Machine

/-! ## POLL -/

/-- R149. -/
def pollBody (p : Port) (_ : List Int) (s : State) : Reply := taken s .ok fun t => t.pollFields p

/-- Table 10-4. -/
def rowPoll : RequestRow := ⟨1#8, isPlant, [], pollBody⟩

/-- R149. -/
def execPoll (f : Frame) (s : State) : Host.Outcome State Fault Refusal := .next (s.request rowPoll f)

/-! ## TRAIN_REPORT -/

/-- R133 step 6. -/
def State.reportFields (t : Train) (s : State) : Fields :=
  let r := s.plant.train t
  [(.u1, r.state.code), (.u1, r.command.code), (.u4, r.posted), (.u1, flag (s.prot.latch.get t))]

/-- R133 steps 3 to 5. -/
def State.takeReport (s : State) (t : Train) (r : Reported) (power kg : Nat) : State :=
  let u := { s with inv := s.inv.attribute t (s.reportStore t) kg }
  u.onPlant fun env p => p.report env t r power

/-- The train is the link's (R131). -/
def State.owns (s : State) (p : Port) (t : Train) : Bool := (s.store.cfg.owner.get t).port? == some p

/-- R133. -/
def trainReportBody (p : Port) (vs : List Int) (s : State) : Reply :=
  match vs with
  | [tr, rep, power, kg] => match trainOf? tr, reportedOf? rep with
    | some t, some r =>
      if 250000 < power ∨ 1000000 < kg then refuse .badValue s
      else if s.owns p t then taken (s.takeReport t r power.toNat kg.toNat) .ok (State.reportFields t)
      else refuse .notOwner s
    | _, _ => refuse .badValue s
  | _ => refuse .badValue s

/-- Table 10-4. -/
def rowTrainReport : RequestRow := ⟨2#8, isPlant, [.u1, .u1, .u4, .u4], trainReportBody⟩

/-- R133. -/
def execTrainReport (f : Frame) (s : State) : Host.Outcome State Fault Refusal := .next (s.request rowTrainReport f)

/-! ## SUBMIT_SERVICE -/

/-- A field that may be ANY (255, R174): none when it is neither ANY nor a code of the list. -/
def orAny {α : Type} (read : Int → Option α) (n : Int) : Option (Option α) :=
  if n = 255 then some none else (read n).map some

/-- What a submission asks for. -/
structure Submission where
  kind : Kind
  setpoint : Nat
  priority : Nat
  store : Option Store
  train : Option Train
  budget : Nat
  deriving DecidableEq, Repr

/-- Table 6-4 check 1. -/
def readSubmission (vs : List Int) : Option Submission :=
  match vs with
  | [k, sp, prio, st, tr, bud] => match kindOf? k, orAny storeOf? st, orAny trainOf? tr with
    | some kind, some store, some train =>
      if sp ≤ 1000000 ∧ prio ≤ 5 ∧ 60 ≤ bud ∧ bud ≤ 14400 then
        some ⟨kind, sp.toNat, prio.toNat, store, train, bud.toNat⟩
      else none
    | _, _, _ => none
  | _ => none

/-- Table 6-4 check 2. -/
def Submission.consistent (x : Submission) (cfg : Cfg) : Bool :=
  match x.train with
  | none => true
  | some t => trainKind t == x.kind && match x.store with
    | none => true
    | some st => cfg.maskHas t st

/-- Table 6-4 check 3. -/
def Submission.owned (x : Submission) (s : State) (p : Port) : Bool :=
  match x.train with
  | some t => s.owns p t
  | none => (trainsOf x.kind).any fun t => s.owns p t

/-- Table 6-4 check 4. -/
def Submission.allowed (x : Submission) (s : State) : Bool :=
  (s.prot.mode == .normal || s.prot.mode == .hold) && !s.env.inhibited x.kind

/-- R99: the setpoint clamped into [L, R] of the kind. -/
def Submission.clamped (x : Submission) (cfg : Cfg) : Nat :=
  min (max x.setpoint (cfg.minLoad.get x.kind)) (cfg.rating.get x.kind)

/-- R99: the order that a submission makes. -/
def Submission.order (x : Submission) (cfg : Cfg) (p : Port) : NewOrder :=
  { origin := .service, kind := x.kind, priority := x.priority, setpoint := x.clamped cfg, store := x.store,
    bound := x.train, owner := some p, budget := some x.budget }

/-- R99: the new id, the store and the setpoint, as created. -/
def Order.submitted (o : Order) : Fields := [(.u2, o.id), (.u1, storeCode o.store), (.u4, o.setpoint)]

/-- R99. -/
def submitServiceBody (p : Port) (vs : List Int) (s : State) : Reply :=
  match readSubmission vs with
  | none => refuse .badValue s
  | some x =>
    if !x.consistent s.store.cfg then refuse .badValue s
    else if !x.owned s p then refuse .notOwner s
    else if !x.allowed s then refuse .mode s
    else match s.plant.create s.env (x.order s.store.cfg p) with
      | none => refuse .tableFull s
      | some (e, q) =>
        taken { s with plant := q } (if x.clamped s.store.cfg = x.setpoint then .ok else .clamped)
          fun _ => (q.ord e).submitted

/-- Table 10-4. -/
def rowSubmitService : RequestRow := ⟨3#8, isPlant, [.u1, .u4, .u1, .u1, .u1, .u2], submitServiceBody⟩

/-- R99. -/
def execSubmitService (f : Frame) (s : State) : Host.Outcome State Fault Refusal :=
  .next (s.request rowSubmitService f)

/-! ## CANCEL_SERVICE -/

/-- R101: the entry of the live SERVICE order with an id. -/
def Plant.liveService (p : Plant) (id : Int) : Option Entry :=
  entryList.find? fun e => (p.ord e).state.live && (p.ord e).origin == .service && ((p.ord e).id : Int) == id

/-- R101. -/
def cancelServiceBody (p : Port) (vs : List Int) (s : State) : Reply :=
  match vs with
  | [id] => match s.plant.liveService id with
    | none => refuse .badValue s
    | some e =>
      if (s.plant.ord e).owner = some p then
        taken (s.onPlant fun env q => q.retireAll env [(e, .withdrawn)]) .ok fun _ => []
      else refuse .notOwner s
  | _ => refuse .badValue s

/-- Table 10-4. -/
def rowCancelService : RequestRow := ⟨4#8, isPlant, [.u2], cancelServiceBody⟩

/-- R101. -/
def execCancelService (f : Frame) (s : State) : Host.Outcome State Fault Refusal :=
  .next (s.request rowCancelService f)

/-! ## QUERY_ORDER -/

/-- R116: the entry whose record holds an id, live or retired. -/
def Plant.entryOf (p : Plant) (id : Int) : Option Entry :=
  entryList.find? fun e => (p.ord e).state != .free && ((p.ord e).id : Int) == id

/-- R116. -/
def queryOrderBody (_ : Port) (vs : List Int) (s : State) : Reply :=
  match vs with
  | [id] =>
    if id = 0 then taken s .ok State.summaryFields
    else match s.plant.entryOf id with
      | some e => taken s .ok fun t => (t.plant.ord e).fields e
      | none => refuse .badValue s
  | _ => refuse .badValue s

/-- Table 10-4. -/
def rowQueryOrder : RequestRow := ⟨5#8, isPlant, [.u2], queryOrderBody⟩

/-- R116. -/
def execQueryOrder (f : Frame) (s : State) : Host.Outcome State Fault Refusal := .next (s.request rowQueryOrder f)

/-! ## QUERY_INVENTORY -/

/-- R20. -/
def queryInventoryBody (_ : Port) (_ : List Int) (s : State) : Reply := taken s .ok State.inventoryFields

/-- Table 10-4. -/
def rowQueryInventory : RequestRow := ⟨6#8, isPlant, [], queryInventoryBody⟩

/-- R20. -/
def execQueryInventory (f : Frame) (s : State) : Host.Outcome State Fault Refusal :=
  .next (s.request rowQueryInventory f)

/-! ## SEED_INVENTORY -/

/-- R19, R22, R66: a seed taken: the account, RECON when RECON_FAULT is cleared, headroom, and the Sweep. -/
def State.seed (s : State) (kg : Nat) (heat : PerStore Nat) : State :=
  let t := ({ s with inv := s.inv.seed s.store.cfg kg heat } : State).recomputeHeadroom
  let t := if s.inv.reconFault && !t.inv.reconFault then t.raiseRecon else t
  t.sweepBegin

/-- R19. -/
def seedInventoryBody (_ : Port) (vs : List Int) (s : State) : Reply :=
  match vs with
  | [kg, q0, q1, q2] =>
    if s.prot.mode = .setup ∨ s.prot.mode = .hold then
      let heat : PerStore Nat := ⟨q0.toNat, q1.toNat, q2.toNat⟩
      taken (s.seed kg.toNat heat) (if seedClamped s.store.cfg kg.toNat heat then .clamped else .ok) fun _ => []
    else refuse .mode s
  | _ => refuse .badValue s

/-- Table 10-4. -/
def rowSeedInventory : RequestRow := ⟨7#8, isPlant, [.u4, .u4, .u4, .u4], seedInventoryBody⟩

/-- R19. -/
def execSeedInventory (f : Frame) (s : State) : Host.Outcome State Fault Refusal :=
  .next (s.request rowSeedInventory f)

/-! ## CLEAR_TRAIN -/

/-- R141. -/
def clearTrainBody (p : Port) (vs : List Int) (s : State) : Reply :=
  match vs with
  | [tr] => match trainOf? tr with
    | none => refuse .badValue s
    | some t =>
      if !s.owns p t then refuse .notOwner s
      else if (s.plant.train t).state ≠ .fault then refuse .mode s
      else taken (s.onPlant fun env q => q.clearFault env t) .ok fun u => [(.u1, (u.plant.train t).state.code)]
  | _ => refuse .badValue s

/-- Table 10-4. -/
def rowClearTrain : RequestRow := ⟨11#8, isPlant, [.u1], clearTrainBody⟩

/-- R141. -/
def execClearTrain (f : Frame) (s : State) : Host.Outcome State Fault Refusal := .next (s.request rowClearTrain f)

/-! ## HANDOVER -/

/-- R101, R145: the live SERVICE orders bound to a train whose owner link is its former owner. -/
def Plant.boundOrders (p : Plant) (t : Train) (former : Option Port) : List Entry :=
  entryList.filter fun e =>
    (p.ord e).state.live && (p.ord e).origin == .service && (p.ord e).bound == some t && (p.ord e).owner == former

/-- R145: a train's owner is written. -/
def State.writeOwner (s : State) (t : Train) (o : Owner) : State :=
  { s with store := { s.store with cfg := { s.store.cfg with owner := s.store.cfg.owner.set t o } } }

/-- R145: a handover taken. -/
def State.handOver (s : State) (p : Port) (t : Train) : State :=
  let gone := s.plant.boundOrders t (s.store.cfg.owner.get t).port?
  (s.writeOwner t (ownerOfPort p)).onPlant fun env q => q.retireAll env (gone.map fun e => (e, .withdrawn))

/-- R145. -/
def handoverBody (p : Port) (vs : List Int) (s : State) : Reply :=
  match vs with
  | [tr] => match trainOf? tr with
    | none => refuse .badValue s
    | some t =>
      if s.owns p t then refuse .badValue s
      else if s.store.cfg.owner.get t = .nobody then refuse .notOwner s
      else if (s.plant.train t).state ≠ .lost then refuse .mode s
      else taken (s.handOver p t) .ok fun u => u.trainFields t
  | _ => refuse .badValue s

/-- Table 10-4. -/
def rowHandover : RequestRow := ⟨13#8, isPlant, [.u1], handoverBody⟩

/-- R145. -/
def execHandover (f : Frame) (s : State) : Host.Outcome State Fault Refusal := .next (s.request rowHandover f)

end Sys2Proof.Machine
end

