-- ==== Sys2Proof/Machine/ModeRequests.lean ====
section
/-! DEFINITION. Requests of the plant links served by the Protection Unit and the Book Unit's windows (chapters 9, 3): HOLD, RESUME, RESET_TRIP,
CLEAR_INHIBIT, SET_WINDOW; and RESTART, the warm restart (chapter 11). -/

namespace Sys2Proof.Machine

/-! ## HOLD -/

/-- R158. -/
def holdBody (_ : Port) (_ : List Int) (s : State) : Reply :=
  match s.prot.mode with
  | .normal => taken s.enterHold .ok fun _ => []
  | .hold => taken s .ok fun _ => []
  | .setup | .trip => refuse .mode s

/-- Table 10-4. -/
def rowHold : RequestRow := ⟨8#8, isPlant, [], holdBody⟩

/-- R158. -/
def execHold (f : Frame) (s : State) : Host.Outcome State Fault Refusal := .next (s.request rowHold f)

/-! ## RESUME -/

/-- R160: the hold caps are cleared and NORMAL is entered. -/
def State.resume (s : State) : State := (s.onPlant fun _ p => p.clearCaps).enterNormal

/-- R160. -/
def resumeBody (_ : Port) (_ : List Int) (s : State) : Reply :=
  if s.prot.mode = .hold ∧ s.lineActive .hrq = false then taken s.resume .ok fun _ => [] else refuse .mode s

/-- Table 10-4. -/
def rowResume : RequestRow := ⟨9#8, isPlant, [], resumeBody⟩

/-- R160. -/
def execResume (f : Frame) (s : State) : Host.Outcome State Fault Refusal := .next (s.request rowResume f)

/-! ## RESET_TRIP -/

/-- R162. -/
def resetTripBody (_ : Port) (_ : List Int) (s : State) : Reply :=
  if s.prot.mode = .trip ∧ s.lineActive .est = false ∧ s.lineActive .gof = false then
    taken s.enterHold .ok fun _ => []
  else refuse .mode s

/-- Table 10-4. -/
def rowResetTrip : RequestRow := ⟨10#8, isPlant, [], resetTripBody⟩

/-- R162. -/
def execResetTrip (f : Frame) (s : State) : Host.Outcome State Fault Refusal := .next (s.request rowResetTrip f)

/-! ## CLEAR_INHIBIT -/

/-- R155: the five latches, in the order in which the rule names them. -/
inductive Latch
  | charge | discharge | isolated (st : Store)
  deriving DecidableEq, Repr

/-- The latch that a byte names: no record table lists the five, and the order is that of R155's text (DESIGN CHOICE,
log 36). -/
def latchOf? (n : Int) : Option Latch :=
  match n with
  | 0 => some .charge | 1 => some .discharge
  | 2 => some (.isolated .s0) | 3 => some (.isolated .s1) | 4 => some (.isolated .s2)
  | _ => none

/-- The line that sets a latch (Table 9-2). -/
def Latch.line : Latch → Protective
  | .charge => .phi
  | .discharge => .plo
  | .isolated .s0 => .ts0
  | .isolated .s1 => .ts1
  | .isolated .s2 => .ts2

/-- R155: the latch is cleared. -/
def State.clearLatch (s : State) : Latch → State
  | .charge => s.clearInhibit .compress
  | .discharge => s.clearInhibit .expand
  | .isolated st => s.clearIsolated st

/-- R155. -/
def clearInhibitBody (_ : Port) (vs : List Int) (s : State) : Reply :=
  match vs with
  | [n] => match latchOf? n with
    | none => refuse .badValue s
    | some l => if s.lineActive l.line then refuse .mode s else taken (s.clearLatch l) .ok fun _ => []
  | _ => refuse .badValue s

/-- Table 10-4. -/
def rowClearInhibit : RequestRow := ⟨12#8, isPlant, [.u1], clearInhibitBody⟩

/-- R155. -/
def execClearInhibit (f : Frame) (s : State) : Host.Outcome State Fault Refusal :=
  .next (s.request rowClearInhibit f)

/-! ## SET_WINDOW -/

/-- R54: a window's settable fields, its hit flag clear. The forbidden set is a mask of DISCHARGE, CHARGE, RESERVE_UP and
RESERVE_DOWN (Table 3-6). -/
def Window.make (base width set : Nat) (enable : Bool) : Window :=
  ⟨base, width, set.testBit 0, set.testBit 1, set.testBit 2, set.testBit 3, enable, false⟩

def State.setWindow (s : State) (n : Fin 4) (w : Window) : State :=
  { s with book := { s.book with windows := s.book.windows.set n.val w } }

/-- The window numbers 0..3. -/
def windowOf? (n : Int) : Option (Fin 4) :=
  match n with
  | 0 => some 0 | 1 => some 1 | 2 => some 2 | 3 => some 3
  | _ => none

/-- R54. -/
def setWindowBody (_ : Port) (vs : List Int) (s : State) : Reply :=
  match vs with
  | [n, base, width, set, enable] =>
    if n = 255 then taken s .ok State.windowFields
    else match windowOf? n with
      | none => refuse .badValue s
      | some i =>
        if 7 < width ∨ 15 < set ∨ 1 < enable then refuse .badValue s
        else taken (s.setWindow i (.make base.toNat width.toNat set.toNat (enable == 1))) .ok State.windowFields
  | _ => refuse .badValue s

/-- Table 10-4. -/
def rowSetWindow : RequestRow := ⟨14#8, isPlant, [.u1, .u4, .u1, .u1, .u1], setWindowBody⟩

/-- R54. -/
def execSetWindow (f : Frame) (s : State) : Host.Outcome State Fault Refusal := .next (s.request rowSetWindow f)

/-! ## RESTART -/

/-- R76: the Sweep after a warm restart. -/
def Sweep.warm (w : Sweep) (current : Nat) : Sweep :=
  if w.running then w.start current else { w with pointer := 0, carried := none }

/-- R182, R21, R65, R88, R117, R150, R165, R175: what a warm restart clears, block by block. -/
def State.warmClear (s : State) : State :=
  { s with
    plant := s.plant.warm
    res := .cold
    book := { s.book with page := none }
    inv := { s.inv with acc := .all (.all 0) }
    ports := .of fun q => { s.ports.get q with memory := none }
    sweep := s.sweep.warm s.tb.current }

/-- R182, R88: the Reserve Unit then hands its targets to the emptied Dispatch Unit. -/
def State.warmRestart (s : State) : State := s.warmClear.reform

/-- R182. -/
def restartBody (_ : Port) (_ : List Int) (s : State) : Reply :=
  match s.prot.mode with
  | .normal => refuse .mode s
  | .setup | .hold | .trip => taken s.warmRestart .ok fun _ => []

/-- Table 10-4. -/
def rowRestart : RequestRow := ⟨19#8, isPlant, [], restartBody⟩

/-- R182. -/
def execRestart (f : Frame) (s : State) : Host.Outcome State Fault Refusal := .next (s.request rowRestart f)

end Sys2Proof.Machine
end

