-- ==== Sys2Proof/Machine/ConfigRequests.lean ====
section
/-! DEFINITION. Requests served by the Configuration Store (11_configuration_image_and_plant_start.md): CONFIG_WRITE, CONFIG_READ, STORE_CONFIG with
the end of the image write, and START_PLANT. -/

namespace Sys2Proof.Machine

/-! ## CONFIG_WRITE -/

/-- R1: every Q_s brought to its capacity. -/
def State.clipHeat (s : State) : State :=
  { s with inv := { s.inv with heat := .of fun st => min (s.inv.heat.get st) (s.store.cfg.capacity.get st) } }

/-- R131: a train whose owner has been written to NONE goes OFFLINE. -/
def State.ownerWritten (s : State) (t : Train) : State :=
  if s.store.cfg.owner.get t = .nobody ∧ (s.plant.train t).state ≠ .offline then s.onPlant fun _ p => p.toOffline t
  else s

/-- R151: a write of a line's settings sets its agreement count to 0. -/
def State.restartCount (s : State) (l : Line) : State :=
  { s with prot := { s.prot with lines := s.prot.lines.set l { s.prot.lines.get l with count := 0 } } }

/-- R151: the lines of a sample group. -/
def groupLines (i : Nat) : List Line :=
  if i = 0 then [.prot .phi, .prot .plo, .prot .ts0, .prot .ts1, .prot .ts2, .prot .est, .prot .gof, .prot .hrq]
  else trainList.map Line.feedback

/-- R151: a line enabled or disabled; disabling sets its qualified value INACTIVE as the write is taken. -/
def State.enableWritten (s : State) (l : Line) : State :=
  if s.store.cfg.enabled.get l then s.restartCount l else s.setLine l false 0

/-- R176: what a changed item does as the write is taken. -/
def State.itemWritten (s : State) (code i : Nat) : State :=
  match code with
  | 12 => s.clipHeat
  | 21 => s.ownerWritten (trainAt i)
  | 30 | 31 => s.restartCount (lineAt i)
  | 32 => s.enableWritten (lineAt i)
  | 33 => (groupLines i).foldl State.restartCount s
  | _ => s

def State.setCfg (s : State) (c : Cfg) : State := { s with store := { s.store with cfg := c } }

/-- R177: a write taken. One that repeats the value held changes nothing. -/
def State.writeItem (s : State) (code i v : Nat) : State :=
  if s.store.cfg.read code i = v then s
  else ((s.setCfg (s.store.cfg.write code i v)).itemWritten code i).recomputeHeadroom

/-- R177. -/
def configWriteBody (_ : Port) (vs : List Int) (s : State) : Reply :=
  match vs with
  | [code, i, v] =>
    if s.prot.mode ≠ .setup then refuse .mode s
    else if itemExists code.toNat i.toNat && itemInRange code.toNat v.toNat then
      taken (s.writeItem code.toNat i.toNat v.toNat) .ok (State.itemFields code.toNat i.toNat)
    else refuse .badValue s
  | _ => refuse .badValue s

/-- Table 10-4. -/
def rowConfigWrite : RequestRow := ⟨15#8, isPlant, [.u1, .u1, .u4], configWriteBody⟩

/-- R177. -/
def execConfigWrite (f : Frame) (s : State) : Host.Outcome State Fault Refusal := .next (s.request rowConfigWrite f)

/-! ## CONFIG_READ -/

/-- R178. -/
def configReadBody (_ : Port) (vs : List Int) (s : State) : Reply :=
  match vs with
  | [code, i] =>
    if code = 0 ∧ i = 0 then taken s .ok State.storeFields
    else if itemExists code.toNat i.toNat then taken s .ok (State.itemFields code.toNat i.toNat)
    else refuse .badValue s
  | _ => refuse .badValue s

/-- Table 10-4. -/
def rowConfigRead : RequestRow := ⟨16#8, isPlant, [.u1, .u1], configReadBody⟩

/-- R178. -/
def execConfigRead (f : Frame) (s : State) : Host.Outcome State Fault Refusal := .next (s.request rowConfigRead f)

/-! ## STORE_CONFIG -/

/-- R179: the write of the image begins. -/
def State.beginWrite (s : State) (p : Port) : State :=
  { s with store := { s.store with write := some (s.store.cfg, p) } }

/-- R179: refused MODE outside SETUP or while a write is in progress; when taken, its answer waits for the write. -/
def storeConfigBody (p : Port) (_ : List Int) (s : State) : Reply :=
  if s.prot.mode = .setup ∧ s.store.write = none then ⟨s.beginWrite p, .ok, fun _ => [], true⟩ else refuse .mode s

/-- Table 10-4. -/
def rowStoreConfig : RequestRow := ⟨17#8, isPlant, [], storeConfigBody⟩

/-- R179. -/
def execStoreConfig (f : Frame) (s : State) : Host.Outcome State Fault Refusal := .next (s.request rowStoreConfig f)

/-! ## IMAGE_WRITE_COMPLETE -/

/-- R179: the image holds the copy with a matching CRC, and the unvalidated mark is cleared. -/
def ConfigStore.written (c : ConfigStore) (copy : Cfg) : ConfigStore :=
  { c with image := ⟨copy, copy.crc⟩, unvalidated := false, write := none }

/-- R179: the OK that a port has owed since STORE_CONFIG is sent, with the link's cause flags as they stand then, at the
end of the write (DESIGN CHOICE, log 35). -/
def State.sendAwaited (s : State) (p : Port) : State :=
  match (s.port p).answer with
  | .awaited k => s.setAnswer p (.sending k ⟨k.seq, k.code, .ok, (s.plant.causes.get p).flags, []⟩)
  | .none | .sending _ _ => s

/-- R179: the write of the image ends. -/
def State.imageWritten (s : State) : State :=
  match s.store.write with
  | some (copy, p) => (({ s with store := s.store.written copy } : State).finish).sendAwaited p
  | none => s

/-- R179; while the part does not run the write makes no progress (log 19). -/
def execImageWriteComplete (s : State) : Host.Outcome State Fault Refusal :=
  match s.supply with
  | .running => .next s.imageWritten
  | .held | .off => .next s

/-! ## START_PLANT -/

/-- R181. -/
def startPlantBody (_ : Port) (_ : List Int) (s : State) : Reply :=
  if s.prot.mode ≠ .setup then refuse .mode s
  else if (startCheck s.store.unvalidated s.store.cfg).isSome then refuse .configInvalid s
  else if !s.inv.seeded then refuse .notSeeded s
  else taken s.enterNormal .ok fun t => [(.u1, t.prot.mode.code)]

/-- Table 10-4. -/
def rowStartPlant : RequestRow := ⟨18#8, isPlant, [], startPlantBody⟩

/-- R181. -/
def execStartPlant (f : Frame) (s : State) : Host.Outcome State Fault Refusal := .next (s.request rowStartPlant f)

end Sys2Proof.Machine
end

