-- ==== Sys2Proof/Machine/MarketRequests.lean ====
section
/-! DEFINITION. Requests of the market link (chapters 3, 4) and QUERY_HEADROOM (chapter 2): SYNC_TIME, QUERY_SLOT, COMMIT, ADJUST, WITHDRAW,
OPEN_DAY, STAGE, CLOSE_DAY, QUERY_SWEEP, SWEEP_RESTART, QUERY_HEADROOM. -/

namespace Sys2Proof.Machine

/-- The market link alone. -/
def isMarket (p : Port) : Bool := p == .mk

/-! ## SYNC_TIME -/

/-- R41, R42. -/
def syncTimeBody (_ : Port) (vs : List Int) (s : State) : Reply :=
  match vs with
  | [n, sec] =>
    if s.tb.synced then
      if 899 < sec then refuse .badValue s
      else if n ≠ s.tb.current ∨ 10 < (sec - s.tb.second).natAbs then refuse .timeStep s
      else taken (s.trim sec.toNat) .ok State.clockFields
    else if 4000000000 < n ∨ 899 < sec then refuse .badValue s
    else taken (s.firstSync n.toNat sec.toNat) .ok State.clockFields
  | _ => refuse .badValue s

/-- Table 10-4. -/
def rowSyncTime : RequestRow := ⟨32#8, isMarket, [.u4, .u2], syncTimeBody⟩

/-- R41, R42. -/
def execSyncTime (f : Frame) (s : State) : Host.Outcome State Fault Refusal := .next (s.request rowSyncTime f)

/-! ## QUERY_SLOT -/

/-- R52. -/
def querySlotBody (_ : Port) (vs : List Int) (s : State) : Reply :=
  match vs with
  | [n] =>
    if !s.tb.synced then refuse .notSynced s
    else if (s.book.slot n.toNat).holds n.toNat then
      taken s .ok fun t => t.clockFields ++ (t.book.slot n.toNat).fields
    else refuse .badValue s
  | _ => refuse .badValue s

/-- Table 10-4. -/
def rowQuerySlot : RequestRow := ⟨33#8, isMarket, [.u4], querySlotBody⟩

/-- R52. -/
def execQuerySlot (f : Frame) (s : State) : Host.Outcome State Fault Refusal := .next (s.request rowQuerySlot f)

/-! ## Changes to one interval -/

/-- The status a ruling is answered with (Table 3-4). -/
def Ruling.status : Ruling → Status
  | .accepted => .ok
  | .refused st => st
  | .blackout _ => .blackout
  | .infeasible _ _ => .infeasible

/-- The payload a refusal carries (R170, Table 3-4 note 3). -/
def Ruling.refusalFields : Ruling → Fields
  | .accepted | .refused _ => []
  | .blackout w => [(.u1, w)]
  | .infeasible n r => [(.u4, n), (.u1, r.code)]

/-- The reply of a ruling on interval `n`: `accepted` is what an acceptance carries. -/
def Ruling.reply (x : Ruling) (s : State) (n : Nat) (v : Vals) (accepted : State → Fields) : Reply :=
  taken (s.applyRuling n v x) x.status fun t => if x = .accepted then accepted t else x.refusalFields

/-! ## COMMIT -/

/-- R49. -/
def commitBody (_ : Port) (vs : List Int) (s : State) : Reply :=
  match vs with
  | [n, e, up, dn] =>
    let v : Vals := ⟨e, up, dn⟩
    (s.ruleChange n.toNat v v.inRange true).reply s n.toNat v (State.stateAndRevisions n.toNat)
  | _ => refuse .badValue s

/-- Table 10-4. -/
def rowCommit : RequestRow := ⟨34#8, isMarket, [.u4, .s4, .u4, .u4], commitBody⟩

/-- R49. -/
def execCommit (f : Frame) (s : State) : Host.Outcome State Fault Refusal := .next (s.request rowCommit f)

/-! ## ADJUST -/

/-- R50: the values an ADJUST leads to. -/
def State.adjusted (s : State) (n : Nat) (d : Vals) : Vals := (s.book.vals n).add d

/-- R50, R170: an ADJUST's answer carries the prior values once check 1 has passed; what a refusal carries of itself
comes before them, and an acceptance's revisions after (log 12). -/
def adjustReply (s : State) (n : Nat) (v : Vals) (x : Ruling) : Reply :=
  let prior := (s.book.vals n).fields
  taken (s.applyRuling n v x) x.status fun t =>
    if x = .accepted then prior ++ t.revisionsOf n else x.refusalFields ++ prior

/-- R50. -/
def adjustBody (_ : Port) (vs : List Int) (s : State) : Reply :=
  match vs with
  | [n, e, up, dn] =>
    let d : Vals := ⟨e, up, dn⟩
    let v := s.adjusted n.toNat d
    if s.tb.synced then adjustReply s n.toNat v (s.ruleChange n.toNat v (d.deltaInRange && v.inRange) true)
    else refuse .notSynced s
  | _ => refuse .badValue s

/-- Table 10-4. -/
def rowAdjust : RequestRow := ⟨35#8, isMarket, [.u4, .s4, .s4, .s4], adjustBody⟩

/-- R50. -/
def execAdjust (f : Frame) (s : State) : Host.Outcome State Fault Refusal := .next (s.request rowAdjust f)

/-! ## WITHDRAW -/

/-- R51. -/
def withdrawBody (_ : Port) (vs : List Int) (s : State) : Reply :=
  match vs with
  | [n] => (s.ruleChange n.toNat .zero true false).reply s n.toNat .zero (State.revisionsOf n.toNat)
  | _ => refuse .badValue s

/-- Table 10-4. -/
def rowWithdraw : RequestRow := ⟨36#8, isMarket, [.u4], withdrawBody⟩

/-- R51. -/
def execWithdraw (f : Frame) (s : State) : Host.Outcome State Fault Refusal := .next (s.request rowWithdraw f)

/-! ## OPEN_DAY -/

/-- R57: the page is opened, filled from the book. -/
def State.openPage (s : State) (d : Nat) : State :=
  { s with book := { s.book with page := some ⟨d, s.book.dayEntries d⟩ } }

/-- R57. -/
def openDayBody (_ : Port) (vs : List Int) (s : State) : Reply :=
  match vs with
  | [d] =>
    if !s.tb.synced then refuse .notSynced s
    else if s.book.page.isSome then refuse .pageOpen s
    else if 96 * d.toNat + 95 ≤ s.leadEnd then refuse .tooLate s
    else if s.tb.current + 191 < 96 * d.toNat + 95 then refuse .badValue s
    else taken (s.openPage d.toNat) .ok fun t => [(.u4, d), (.u1, t.firstOffset d.toNat)]
  | _ => refuse .badValue s

/-- Table 10-4. -/
def rowOpenDay : RequestRow := ⟨37#8, isMarket, [.u4], openDayBody⟩

/-- R57. -/
def execOpenDay (f : Frame) (s : State) : Host.Outcome State Fault Refusal := .next (s.request rowOpenDay f)

/-! ## STAGE -/

/-- R58: an entry of the open page takes the given values. -/
def Page.staged (p : Page) (offset : Nat) (v : Vals) : Page := { p with entries := p.entries.set offset v }

/-- R58. -/
def stageBody (_ : Port) (vs : List Int) (s : State) : Reply :=
  match vs with
  | [o, e, up, dn] =>
    let v : Vals := ⟨e, up, dn⟩
    match s.book.page with
    | none => refuse .noPage s
    | some p =>
      let n := 96 * p.day + o.toNat
      if 95 < o ∨ v.inRange = false then refuse .badValue s
      else if n ≤ s.leadEnd then refuse .tooLate s
      else if s.book.blackout n v then
        taken (s.hitWindows n v) .blackout fun _ => (Ruling.blackout (s.blockingWindow n v)).refusalFields
      else taken { s with book := { s.book with page := some (p.staged o.toNat v) } } .ok fun _ => []
  | _ => refuse .badValue s

/-- Table 10-4. -/
def rowStage : RequestRow := ⟨38#8, isMarket, [.u1, .s4, .u4, .u4], stageBody⟩

/-- R58. -/
def execStage (f : Frame) (s : State) : Host.Outcome State Fault Refusal := .next (s.request rowStage f)

/-! ## CLOSE_DAY -/

/-- R59. -/
def closeAccept (s : State) : Reply :=
  match s.ruleClose with
  | .noPage => refuse .noPage s
  | .limited n => taken s .revisionLimit fun _ => [(.u4, n)]
  | .infeasible n r => taken s .infeasible fun _ => (Ruling.infeasible n r).refusalFields
  | .accepted skipped changes =>
    taken (s.writeChanges changes) .ok fun _ => [(.u1, skipped), (.u1, (changes.length : Int))]

/-- R60. -/
def closeDiscard (s : State) : Reply :=
  match s.book.page with
  | none => refuse .noPage s
  | some _ => taken s.dropPage .ok fun _ => []

/-- R59, R60: the choice byte: ACCEPT 0, DISCARD 1 (log 16). -/
def closeDayBody (_ : Port) (vs : List Int) (s : State) : Reply :=
  match vs with
  | [0] => closeAccept s
  | [1] => closeDiscard s
  | _ => refuse .badValue s

/-- Table 10-4. -/
def rowCloseDay : RequestRow := ⟨39#8, isMarket, [.u1], closeDayBody⟩

/-- R59. -/
def execCloseDayAccept (f : Frame) (s : State) : Host.Outcome State Fault Refusal :=
  .next (s.request rowCloseDay { f with payload := 0#8 :: f.payload })

/-- R60. -/
def execCloseDayDiscard (f : Frame) (s : State) : Host.Outcome State Fault Refusal :=
  .next (s.request rowCloseDay { f with payload := 1#8 :: f.payload })

/-! ## QUERY_SWEEP -/

/-- R74. -/
def querySweepBody (_ : Port) (_ : List Int) (s : State) : Reply := taken s .ok State.sweepFields

/-- Table 10-4. -/
def rowQuerySweep : RequestRow := ⟨40#8, isMarket, [], querySweepBody⟩

/-- R74. -/
def execQuerySweep (f : Frame) (s : State) : Host.Outcome State Fault Refusal := .next (s.request rowQuerySweep f)

/-! ## SWEEP_RESTART -/

/-- R73. -/
def sweepRestartBody (_ : Port) (_ : List Int) (s : State) : Reply :=
  if !s.tb.synced then refuse .notSynced s
  else if !s.inv.seeded then refuse .notSeeded s
  else taken s.sweepStart .ok fun t => [(.u2, t.sweep.cycles)]

/-- Table 10-4. -/
def rowSweepRestart : RequestRow := ⟨41#8, isMarket, [], sweepRestartBody⟩

/-- R73. -/
def execSweepRestart (f : Frame) (s : State) : Host.Outcome State Fault Refusal :=
  .next (s.request rowSweepRestart f)

/-! ## QUERY_HEADROOM -/

/-- R26. -/
def queryHeadroomBody (_ : Port) (_ : List Int) (s : State) : Reply := taken s .ok State.headroomFields

/-- Table 10-4: permitted on MK and GR. -/
def rowQueryHeadroom : RequestRow := ⟨42#8, fun p => !isPlant p, [], queryHeadroomBody⟩

/-- R26. -/
def execQueryHeadroom (f : Frame) (s : State) : Host.Outcome State Fault Refusal :=
  .next (s.request rowQueryHeadroom f)

end Sys2Proof.Machine
end

