-- ==== Sys2Proof/Machine/GridRequests.lean ====
section
/-! DEFINITION. Requests of the grid link (chapter 5): ACTIVATE, QUERY_ACTIVE; and those of every link (chapter 10): ACK_CAUSES,
SET_CAUSE_ENABLE. -/

namespace Sys2Proof.Machine

/-- The grid link alone. -/
def isGrid (p : Port) : Bool := p == .gr

/-! ## ACTIVATE -/

/-- R78 step 3: the activation is taken, the targets re-formed and the withheld condition judged. -/
def State.takeActivation (s : State) (v : Int) : State :=
  let a := s.clampToHolding v
  let t := if a = v then s else s.raise .gr .actClamped
  ({ t with res := { t.res with a := a, requested := v } } : State).reform.judgeWithheld true

/-- R78: what the answer carries. -/
def State.activationFields (s : State) : Fields :=
  [(.s4, s.res.a), (.s4, s.res.requested), (.u4, s.active.up), (.u4, s.active.dn)] ++ s.clockFields

/-- R78. -/
def activateBody (_ : Port) (vs : List Int) (s : State) : Reply :=
  match vs with
  | [v] =>
    if v < -1000000 ∨ 1000000 < v then refuse .badValue s
    else if !s.tb.synced then refuse .notSynced s
    else taken (s.takeActivation v) (if s.clampToHolding v = v then .ok else .clamped) State.activationFields
  | _ => refuse .badValue s

/-- Table 10-4. -/
def rowActivate : RequestRow := ⟨48#8, isGrid, [.s4], activateBody⟩

/-- R78. -/
def execActivate (f : Frame) (s : State) : Host.Outcome State Fault Refusal := .next (s.request rowActivate f)

/-! ## QUERY_ACTIVE -/

/-- R87. -/
def queryActiveBody (_ : Port) (_ : List Int) (s : State) : Reply :=
  if s.tb.synced then taken s .ok State.activeFields else refuse .notSynced s

/-- Table 10-4. -/
def rowQueryActive : RequestRow := ⟨49#8, isGrid, [], queryActiveBody⟩

/-- R87. -/
def execQueryActive (f : Frame) (s : State) : Host.Outcome State Fault Refusal := .next (s.request rowQueryActive f)

/-! ## ACK_CAUSES -/

/-- The word of a 16-bit field. -/
def wordOf (v : Int) : Word16 := BitVec.ofInt 16 v

/-- A link's cause flags and enables. -/
def State.causes (s : State) (p : Port) : Causes := s.plant.causes.get p

def State.setCauses (s : State) (p : Port) (x : Causes) : State :=
  { s with plant := { s.plant with causes := s.plant.causes.set p x } }

/-- R172: the flags named are cleared; naming WINDOW_HIT on a plant link clears the hit flags. -/
def State.acknowledge (s : State) (p : Port) (w : Word16) : State :=
  let t := s.setCauses p ((s.causes p).ack w)
  if isPlant p && w.getLsbD 8 then t.clearHits else t

/-- R172. -/
def ackCausesBody (p : Port) (vs : List Int) (s : State) : Reply :=
  match vs with
  | [v] =>
    let w := wordOf v
    if w &&& ~~~causeBits p ≠ 0#16 then refuse .badValue s
    else taken (s.acknowledge p w) .ok fun t => [(.u2, ((t.causes p).flags.toNat : Int))]
  | _ => refuse .badValue s

/-- Table 10-4: permitted on all four. -/
def rowAckCauses : RequestRow := ⟨64#8, fun _ => true, [.u2], ackCausesBody⟩

/-- R172. -/
def execAckCauses (f : Frame) (s : State) : Host.Outcome State Fault Refusal := .next (s.request rowAckCauses f)

/-! ## SET_CAUSE_ENABLE -/

/-- R173. -/
def setCauseEnableBody (p : Port) (vs : List Int) (s : State) : Reply :=
  match vs with
  | [v] =>
    let w := wordOf v
    if w &&& ~~~causeBits p ≠ 0#16 then refuse .badValue s
    else taken (s.setCauses p ((s.causes p).enable w)) .ok fun t =>
      [(.u2, ((t.causes p).enables.toNat : Int)), (.u2, ((t.causes p).flags.toNat : Int))]
  | _ => refuse .badValue s

/-- Table 10-4: permitted on all four. -/
def rowSetCauseEnable : RequestRow := ⟨65#8, fun _ => true, [.u2], setCauseEnableBody⟩

/-- R173. -/
def execSetCauseEnable (f : Frame) (s : State) : Host.Outcome State Fault Refusal :=
  .next (s.request rowSetCauseEnable f)

end Sys2Proof.Machine
end

