-- ==== Sys2Proof/Machine/PortEvents.lean ====
section
/-! DEFINITION. Events of the ports (10_links_requests_and_answers.md, R166, R169): REPEAT_FRAME, UNKNOWN_REQUEST, FRAME_DISCARDED with the receiver
character by character, RX_IDLE_TIMEOUT, ANSWER_SENT. -/

namespace Sys2Proof.Machine

/-! ## The catalogue -/

/-- Table 10-4. -/
def catalogue : List RequestRow :=
  [rowPoll, rowTrainReport, rowSubmitService, rowCancelService, rowQueryOrder, rowQueryInventory, rowSeedInventory,
   rowHold, rowResume, rowResetTrip, rowClearTrain, rowClearInhibit, rowHandover, rowSetWindow, rowConfigWrite,
   rowConfigRead, rowStoreConfig, rowStartPlant, rowRestart]
  ++ [rowSyncTime, rowQuerySlot, rowCommit, rowAdjust, rowWithdraw, rowOpenDay, rowStage, rowCloseDay, rowQuerySweep,
      rowSweepRestart, rowQueryHeadroom, rowActivate, rowQueryActive, rowAckCauses, rowSetCauseEnable]

/-- R169 checks 1 to 5 on a frame of any code. -/
def takeCode (code : Byte) (f : Frame) (s : State) : Reply :=
  match catalogue.find? fun r => r.code == code with
  | some r => r.take f.port f.payload s
  | none => takeUnknown s

/-! ## REPEAT_FRAME -/

/-- R169: a frame of any code that the party sends again: a repeat is answered from the memory, any other is taken. -/
def execRepeatFrame (code : Byte) (f : Frame) (s : State) : Host.Outcome State Fault Refusal :=
  .next (s.serve code f (takeCode code f))

/-! ## UNKNOWN_REQUEST -/

/-- R169 check 1: a frame whose code is not in the catalogue. -/
def execUnknownRequest (code : Byte) (f : Frame) (s : State) : Host.Outcome State Fault Refusal :=
  .next (s.serve code f (takeCode code f))

/-! ## FRAME_DISCARDED -/

/-- What a character makes of the receiver: its next state, and a well-formed frame when the character ends one (with
its code and what it carries). -/
structure RxStep where
  port : LinkPort
  frame : Option (Byte × Byte × List Byte)
  deriving DecidableEq, Repr

/-- The receiver goes on, with the byte in its buffer. -/
def LinkPort.keep (k : LinkPort) (rx : RxState) (b : Byte) : LinkPort :=
  { k with rx := rx, lineIdle := false, buffer := k.buffer ++ [b] }

/-- The length byte of the frame being received (Table 10-2 byte 3). -/
def LinkPort.lengthByte (k : LinkPort) : Nat := (k.buffer.getD 3 0#8).toNat

/-- R166, CHECK: the last byte of a frame has been taken; the frame is well formed when its CRC matches. -/
def checkFrame (k : LinkPort) : RxStep :=
  match k.buffer with
  | _ :: seq :: code :: len :: rest =>
    let payload := rest.take len.toNat
    if natBytes 2 (crc16 (seq :: code :: len :: payload)).toNat = rest.drop len.toNat then
      ⟨k.frameEnd, some (seq, code, payload)⟩
    else ⟨k.frameEnd, none⟩
  | _ => ⟨k.frameEnd, none⟩

/-- R166: one byte at the receiver. -/
def LinkPort.rxByte (k : LinkPort) (b : Byte) : RxStep :=
  match k.rx with
  | .hunt =>
    if k.lineIdle && b == 0xA7#8 then
      if k.answer.outstanding then ⟨k.skipFrame, none⟩ else ⟨({ k with buffer := [] } : LinkPort).keep .header b, none⟩
    else ⟨{ k with lineIdle := false }, none⟩
  | .skip => ⟨{ k with lineIdle := false }, none⟩
  | .header =>
    let n := k.keep .header b
    if n.buffer.length < 4 then ⟨n, none⟩
    else if 120 < n.lengthByte then ⟨k.skipFrame, none⟩
    else if n.lengthByte = 0 then ⟨{ n with rx := .check }, none⟩
    else ⟨{ n with rx := .payload }, none⟩
  | .payload =>
    let n := k.keep .payload b
    if n.buffer.length < 4 + n.lengthByte then ⟨n, none⟩ else ⟨{ n with rx := .check }, none⟩
  | .check =>
    let n := k.keep .check b
    if n.buffer.length < 6 + n.lengthByte then ⟨n, none⟩ else checkFrame n

/-- R166: one character at the receiver; a framing error sends it to SKIP. -/
def LinkPort.rxChar (k : LinkPort) : RxChar → RxStep
  | .byte b => k.rxByte b
  | .framingError => ⟨k.skipFrame, none⟩

/-- R166: a character arrives on a port; one that ends a well-formed frame has the frame taken (R169). -/
def State.receiveChar (s : State) (p : Port) (c : RxChar) : State :=
  let r := (s.port p).rxChar c
  let t := s.modPort p fun _ => r.port
  match r.frame with
  | none => t
  | some (seq, code, payload) => t.serve code ⟨p, seq, payload⟩ (takeCode code ⟨p, seq, payload⟩)

/-- R166: characters that arrive on a port with no gap between them. While RSTN is low or the supply is off nothing is
received (R180). -/
def execFrameDiscarded (p : Port) (chars : List RxChar) (s : State) : Host.Outcome State Fault Refusal :=
  match s.supply with
  | .running => .next (chars.foldl (fun t c => t.receiveChar p c) s)
  | .held | .off => .next s

/-! ## RX_IDLE_TIMEOUT -/

/-- R166: the line has been idle for 1 ms. -/
def execRxIdleTimeout (p : Port) (s : State) : Host.Outcome State Fault Refusal :=
  match s.supply with
  | .running => .next (s.modPort p LinkPort.idle)
  | .held | .off => .next s

/-! ## ANSWER_SENT -/

/-- R169: the transmission of a port's answer is complete. -/
def execAnswerSent (p : Port) (s : State) : Host.Outcome State Fault Refusal :=
  match s.supply with
  | .running => .next (s.modPort p LinkPort.sent)
  | .held | .off => .next s

end Sys2Proof.Machine
end

