-- ==== Sys2Proof/Machine/Events.lean ====
section
/-! DEFINITION. Events of the clock and of the lines: WELLHEAD_SAMPLE, QUALIFIER_SAMPLE, TIMEBASE_SECOND, INTERVAL_TURN, ACCOUNTING_SECOND,
SWEEP_CYCLE_COMPLETE, PLACEMENT_WAIT_EXPIRY and the timers' expiries; RSTN_LOW, COLD_RESET, LOSS_OF_POWER. -/

namespace Sys2Proof.Machine

/-! ## Samples -/

/-- R4, R5. -/
def execWellheadSample (wa wb : Bool) (s : State) : Host.Outcome State Fault Refusal :=
  .next (s.happen fun t => { t with inv := t.inv.sample (wa, wb) })

/-- R151, R152. -/
def execQualifierSample (l : Line) (level : Bool) (s : State) : Host.Outcome State Fault Refusal :=
  .next (s.happen fun t => t.sampleLine l level)

/-! ## Seconds -/

/-- R40. -/
def execTimebaseSecond (s : State) : Host.Outcome State Fault Refusal := .next (s.happen State.timebaseSecond)

/-- The Timebase second in which a named event comes about; when it would not, nothing happens (log 4). -/
def State.secondWith (s : State) (comes : State → Bool) : State :=
  if comes s.takeDue.settle then s.timebaseSecond else s

/-- R43: the Timebase second that turns the interval. -/
def execIntervalTurn (s : State) : Host.Outcome State Fault Refusal :=
  .next (s.happen fun t => t.secondWith State.turns)

/-- R10. -/
def execAccountingSecond (s : State) : Host.Outcome State Fault Refusal := .next (s.happen State.accountingSecond)

/-- R70: the Timebase second whose step completes a sweep cycle. -/
def execSweepCycleComplete (s : State) : Host.Outcome State Fault Refusal :=
  .next (s.happen fun t => t.secondWith State.completesCycle)

/-- R86: the Timebase second that brings the placement wait to 60. -/
def execPlacementWaitExpiry (s : State) : Host.Outcome State Fault Refusal :=
  .next (s.happen fun t => t.secondWith State.waitEnds)

/-! ## Expiries: a timer that stands at 0 runs out (log 3) -/

/-- R100. -/
def execBudgetEnd (e : Fin 24) (s : State) : Host.Outcome State Fault Refusal :=
  .next (s.happen fun t => t.onPlant fun env p => p.budgetOut env e)

/-- R138. -/
def execStartWindowExpiry (tr : Train) (s : State) : Host.Outcome State Fault Refusal :=
  .next (s.happen fun t => t.onPlant fun env p => p.startWindowOut env tr)

/-- R140. -/
def execStopWindowExpiry (tr : Train) (s : State) : Host.Outcome State Fault Refusal :=
  .next (s.happen fun t => t.onPlant fun env p => p.stopWindowOut env tr)

/-- R137. -/
def execRestartInhibitExpiry (tr : Train) (s : State) : Host.Outcome State Fault Refusal :=
  .next (s.happen fun t => t.onPlant fun env p => p.inhibitOut env tr)

/-- R137, R139. -/
def execFeedbackTimerExpiry (tr : Train) (s : State) : Host.Outcome State Fault Refusal :=
  .next (s.happen fun t => t.onPlant fun env p => p.feedbackOut env tr)

/-- R163. -/
def execLinkTimerExpiry (p : Port) (s : State) : Host.Outcome State Fault Refusal :=
  .next (s.happen fun t => t.linkOut p)

/-! ## Reset and supply -/

/-- R180: while RSTN is low no permit is asserted, TRO is deasserted and every ATTN is released; the permit latch is
clear (R147, R175). -/
def State.hold (s : State) : State :=
  { s with supply := .held, prot := { s.prot with latch := .all false }, pins := .released }

/-- R180: RSTN goes low. A part without supply stays so (log 19). -/
def execRstnLow (s : State) : Host.Outcome State Fault Refusal :=
  match s.supply with
  | .off => .next s
  | .running | .held => .next s.hold

/-- R179: a write of the image that is cut short leaves an image whose CRC does not match. -/
def ConfigStore.cut (c : ConfigStore) : ConfigStore :=
  match c.write with
  | some w => { c with image := .bad w.1, write := none }
  | none => c

/-- R180: the load at cold reset. -/
def ConfigStore.load (c : ConfigStore) : ConfigStore :=
  if c.image.crc = c.image.copy.crc then { c with cfg := c.image.copy, unvalidated := false, outcome := .image }
  else { c with cfg := .defaults, unvalidated := true, outcome := .defaults }

/-- R180, Table 11-3: every block at its cold-reset values, reading the configuration just loaded. -/
def State.cold (pending : List Instr) (store : ConfigStore) (free : Nat) : State where
  pending := pending
  supply := .running
  tb := ⟨false, 0, 0⟩
  inv := .cold
  head := (⟨0, 0, 0, 0, 0, none, 0, 0, none, 0⟩ : Headroom).recompute store.cfg .cold (.all false)
  book := .cold
  sweep := .cold
  res := .cold
  plant := .cold store.cfg
  prot := .cold
  ports := .all .cold
  store := store
  pins := .released
  free := free

/-- R180. -/
def execColdReset (s : State) : Host.Outcome State Fault Refusal := .next (.cold s.pending s.store.cut.load s.free)

/-- R179: loss of power: the supply is off, every line released, and a write of the image is cut short (log 20). -/
def execLossOfPower (s : State) : Host.Outcome State Fault Refusal :=
  .next { s.hold with supply := .off, store := s.store.cut }

end Sys2Proof.Machine
end

