-- ==== Sys2Proof/Machine/Dispatch.lean ====
section
/-! DEFINITION. One arm for each command: its meaning, called once. -/

namespace Sys2Proof.Machine

def exec (i : Instr) (s : State) : Host.Outcome State Fault Refusal :=
  match i with
  | .poll f => Sys2Proof.Machine.execPoll f s
  | .trainReport f => Sys2Proof.Machine.execTrainReport f s
  | .submitService f => Sys2Proof.Machine.execSubmitService f s
  | .cancelService f => Sys2Proof.Machine.execCancelService f s
  | .queryOrder f => Sys2Proof.Machine.execQueryOrder f s
  | .queryInventory f => Sys2Proof.Machine.execQueryInventory f s
  | .seedInventory f => Sys2Proof.Machine.execSeedInventory f s
  | .hold f => Sys2Proof.Machine.execHold f s
  | .resume f => Sys2Proof.Machine.execResume f s
  | .resetTrip f => Sys2Proof.Machine.execResetTrip f s
  | .clearTrain f => Sys2Proof.Machine.execClearTrain f s
  | .clearInhibit f => Sys2Proof.Machine.execClearInhibit f s
  | .handover f => Sys2Proof.Machine.execHandover f s
  | .setWindow f => Sys2Proof.Machine.execSetWindow f s
  | .configWrite f => Sys2Proof.Machine.execConfigWrite f s
  | .configRead f => Sys2Proof.Machine.execConfigRead f s
  | .storeConfig f => Sys2Proof.Machine.execStoreConfig f s
  | .imageWriteComplete => Sys2Proof.Machine.execImageWriteComplete s
  | .startPlant f => Sys2Proof.Machine.execStartPlant f s
  | .restart f => Sys2Proof.Machine.execRestart f s
  | .syncTime f => Sys2Proof.Machine.execSyncTime f s
  | .querySlot f => Sys2Proof.Machine.execQuerySlot f s
  | .commit f => Sys2Proof.Machine.execCommit f s
  | .adjust f => Sys2Proof.Machine.execAdjust f s
  | .withdraw f => Sys2Proof.Machine.execWithdraw f s
  | .openDay f => Sys2Proof.Machine.execOpenDay f s
  | .stage f => Sys2Proof.Machine.execStage f s
  | .closeDayAccept f => Sys2Proof.Machine.execCloseDayAccept f s
  | .closeDayDiscard f => Sys2Proof.Machine.execCloseDayDiscard f s
  | .querySweep f => Sys2Proof.Machine.execQuerySweep f s
  | .sweepRestart f => Sys2Proof.Machine.execSweepRestart f s
  | .queryHeadroom f => Sys2Proof.Machine.execQueryHeadroom f s
  | .activate f => Sys2Proof.Machine.execActivate f s
  | .queryActive f => Sys2Proof.Machine.execQueryActive f s
  | .ackCauses f => Sys2Proof.Machine.execAckCauses f s
  | .setCauseEnable f => Sys2Proof.Machine.execSetCauseEnable f s
  | .repeatFrame code f => Sys2Proof.Machine.execRepeatFrame code f s
  | .unknownRequest code f => Sys2Proof.Machine.execUnknownRequest code f s
  | .frameDiscarded port chars => Sys2Proof.Machine.execFrameDiscarded port chars s
  | .rxIdleTimeout port => Sys2Proof.Machine.execRxIdleTimeout port s
  | .answerSent port => Sys2Proof.Machine.execAnswerSent port s
  | .wellheadSample wa wb => Sys2Proof.Machine.execWellheadSample wa wb s
  | .qualifierSample line level => Sys2Proof.Machine.execQualifierSample line level s
  | .timebaseSecond => Sys2Proof.Machine.execTimebaseSecond s
  | .intervalTurn => Sys2Proof.Machine.execIntervalTurn s
  | .accountingSecond => Sys2Proof.Machine.execAccountingSecond s
  | .sweepCycleComplete => Sys2Proof.Machine.execSweepCycleComplete s
  | .placementWaitExpiry => Sys2Proof.Machine.execPlacementWaitExpiry s
  | .budgetEnd entry => Sys2Proof.Machine.execBudgetEnd entry s
  | .startWindowExpiry t => Sys2Proof.Machine.execStartWindowExpiry t s
  | .stopWindowExpiry t => Sys2Proof.Machine.execStopWindowExpiry t s
  | .restartInhibitExpiry t => Sys2Proof.Machine.execRestartInhibitExpiry t s
  | .feedbackTimerExpiry t => Sys2Proof.Machine.execFeedbackTimerExpiry t s
  | .linkTimerExpiry port => Sys2Proof.Machine.execLinkTimerExpiry port s
  | .rstnLow => Sys2Proof.Machine.execRstnLow s
  | .coldReset => Sys2Proof.Machine.execColdReset s
  | .lossOfPower => Sys2Proof.Machine.execLossOfPower s

end Sys2Proof.Machine
end

