-- ==== Sys2Proof/WellFormed.lean ====
section
/-! DEFINITION. Well-formed commands: a request frame's payload is at most 120 bytes (Table 10-2), and a row that
stands for something other than what its operands spell is not that row's command. -/

namespace Sys2Proof

/-- The payload fits the frame's length field (Table 10-2: 0..120). -/
def Frame.fits (f : Frame) : Bool := f.payload.length ≤ 120

/-- The request codes of Table 10-4. -/
def catalogueCode (c : Byte) : Bool :=
  (1 ≤ c.toNat && c.toNat ≤ 19) || (32 ≤ c.toNat && c.toNat ≤ 42) || c.toNat == 48 || c.toNat == 49
    || c.toNat == 64 || c.toNat == 65

/-- What a command's operands must satisfy to be the row's command. -/
def Instr.wellFormed : Instr → Bool
  | .poll f | .trainReport f | .submitService f | .cancelService f | .queryOrder f | .queryInventory f
  | .seedInventory f | .hold f | .resume f | .resetTrip f | .clearTrain f | .clearInhibit f | .handover f
  | .setWindow f | .configWrite f | .configRead f | .storeConfig f | .startPlant f | .restart f | .syncTime f
  | .querySlot f | .commit f | .adjust f | .withdraw f | .openDay f | .stage f | .querySweep f | .sweepRestart f
  | .queryHeadroom f | .activate f | .queryActive f | .ackCauses f | .setCauseEnable f => f.fits
  | .closeDayAccept f | .closeDayDiscard f => f.payload.length ≤ 119
  | .repeatFrame _ f => f.fits
  | .unknownRequest c f => f.fits && !catalogueCode c
  | .frameDiscarded _ cs => !cs.isEmpty
  | .imageWriteComplete | .rxIdleTimeout _ | .answerSent _ | .wellheadSample _ _ | .qualifierSample _ _
  | .timebaseSecond | .intervalTurn | .accountingSecond | .sweepCycleComplete | .placementWaitExpiry
  | .budgetEnd _ | .startWindowExpiry _ | .stopWindowExpiry _ | .restartInhibitExpiry _
  | .feedbackTimerExpiry _ | .linkTimerExpiry _ | .rstnLow | .coldReset | .lossOfPower => true

end Sys2Proof
end

