-- ==== Sys2Proof/Safety.lean ====
section
/-! DEFINITION. The terms in which claims about the GLT-940 are stated: when a request is taken, what answering one leaves, which timers stand at
0, and what every state of a sound run keeps. -/

namespace Sys2Proof.Machine

/-! ## Requests -/

/-- R166, R169: a well-formed frame of this code, arriving now on its port, is taken: the part runs, the port owes no
answer, the frame fits, and the repeat memory does not hold it. -/
def State.accepts (s : State) (code : Byte) (f : Frame) : Prop :=
  s.supply = .running ∧ (s.port f.port).answer = .none ∧ (s.port f.port).recalls (frameKey code f) = none
    ∧ f.payload.length ≤ 120

/-- What a request that changes nothing leaves, but for its answer: the frame has been received (R163, R166). -/
def State.heard (s : State) (p : Port) : State := (s.received p).finish

/-- The port sends an answer to the frame, with this status and these fields, and with its cause flags as they stand
(Table 10-3). -/
def State.answered (t : State) (code : Byte) (f : Frame) (st : Status) (l : Fields) : Prop :=
  (t.port f.port).answer = .sending (frameKey code f) ⟨f.seq, code, st, (t.causes f.port).flags, writeFields l⟩

/-- The state in which a request that changes nothing has been answered. -/
def State.repliesOnly (s : State) (code : Byte) (f : Frame) (st : Status) (l : Fields) : State :=
  (s.heard f.port).setAnswer f.port
    (.sending (frameKey code f) ⟨f.seq, code, st, ((s.heard f.port).causes f.port).flags, writeFields l⟩)

/-- Of the other ports nothing changes: receiver, answer, repeat memory and link timer. -/
def State.sameElsewhere (s t : State) (p : Port) : Prop :=
  ∀ q, q ≠ p → t.port q = s.port q ∧ t.prot.timers.get q = s.prot.timers.get q

/-- Nothing changes but the ports, the link timers and what follows other state (the orders' passes, capacities, the
permit latch and the pins). -/
def State.sameBooks (s t : State) : Prop :=
  t.pending = s.pending ∧ t.supply = s.supply ∧ t.tb = s.tb ∧ t.inv = s.inv ∧ t.book = s.book ∧ t.sweep = s.sweep
    ∧ t.res = s.res ∧ t.store = s.store ∧ t.free = s.free

/-- The Protection Unit's own state but for the timers and the permit latch. -/
def Protection.same (p q : Protection) : Prop :=
  q.lines = p.lines ∧ q.mode = p.mode ∧ q.chargeInhibit = p.chargeInhibit ∧ q.dischargeInhibit = p.dischargeInhibit
    ∧ q.isolated = p.isolated ∧ q.holdMask = p.holdMask

/-- The headroom figures but for the power capacities. -/
def Headroom.same (h k : Headroom) : Prop :=
  k.d = h.d ∧ k.c = h.c ∧ k.eAirD = h.eAirD ∧ k.eHeatD = h.eHeatD ∧ k.dRaw = h.dRaw ∧ k.eAirC = h.eAirC
    ∧ k.eHeatC = h.eHeatC ∧ k.cRaw = h.cRaw

/-! ## Orders -/

/-- What an order keeps from its creation to the reuse of its entry, whatever a dispatch pass does (R90, R93). -/
def Order.sameOrder (o x : Order) : Prop :=
  x.id = o.id ∧ x.origin = o.origin ∧ x.kind = o.kind ∧ x.priority = o.priority ∧ x.setpoint = o.setpoint
    ∧ x.store = o.store ∧ x.bound = o.bound ∧ x.owner = o.owner ∧ x.budget = o.budget ∧ x.created = o.created

/-- What a dispatch pass may do to a train (R107..R112): nothing but its current order, its staged order and its posted
setpoint, or the start of an IDLE train out of restart inhibit (R138). -/
def TrainRec.passFrom (cfg : Cfg) (k : Kind) (r x : TrainRec) : Prop :=
  x.power = r.power ∧ x.reported = r.reported ∧ x.cap = r.cap
    ∧ ((x.state = r.state ∧ x.command = r.command ∧ x.fresh = r.fresh ∧ x.window = r.window ∧ x.inhibit = r.inhibit
          ∧ x.feedback = r.feedback ∧ x.fault = r.fault ∧ x.starts = r.starts)
      ∨ (r.state = .idle ∧ r.inhibit = none ∧ x.state = .starting ∧ x.command = .run ∧ x.fresh = false
          ∧ x.window = some (cfg.startWindow.get k) ∧ x.inhibit = none ∧ x.feedback = none ∧ x.fault = none
          ∧ x.starts = (r.starts + 1) % 65536))

/-- Everything the dispatch passes of an event may do to the orders, gates and trains (R106): no order is created,
retired or changed in what it keeps, no gate opens or closes, no cause is raised, no target or id counter moves. -/
def Plant.passFrom (cfg : Cfg) (p q : Plant) : Prop :=
  (∀ t, (p.train t).passFrom cfg (trainKind t) (q.train t)) ∧ (∀ e, (p.ord e).sameOrder (q.ord e))
    ∧ (∀ g, (q.gate g).isOpen = (p.gate g).isOpen) ∧ q.causes = p.causes ∧ q.heldBook = p.heldBook
    ∧ q.heldGrid = p.heldGrid ∧ q.short = p.short ∧ q.nextId = p.nextId ∧ q.placed = p.placed

/-! ## Invariants -/

/-- R1, R6, R7, R8, R15, R25: the ranges of the inventory and of headroom. -/
def State.inRanges (s : State) : Prop :=
  s.inv.mass ≤ 40000000 ∧ (∀ st, s.inv.heat.get st ≤ s.store.cfg.capacity.get st)
    ∧ -1000 < s.inv.gramRem ∧ s.inv.gramRem < 1000 ∧ s.inv.invalidStreak ≤ 3 ∧ s.inv.cleanStreak ≤ 60
    ∧ s.inv.passStreak ≤ 3 ∧ s.head.d ≤ 16777215 ∧ s.head.c ≤ 16777215

/-- R147, R148, R161, R171, R180: the lines say what the state says. While the part runs, a permit line is its latch, a
latch is set only for a train that is STARTING or RUNNING with a current order, in NORMAL, or in HOLD within the hold
mask; TRO is asserted in TRIP alone; ATTN is asserted while a flag is set. Otherwise every line is released. -/
def State.linesSound (s : State) : Prop :=
  (s.supply = .running →
    s.pins.permits = s.prot.latch
    ∧ (∀ t, s.prot.latch.get t = true →
        (s.prot.mode = .normal ∨ (s.prot.mode = .hold ∧ s.prot.holdMask.get t = true))
        ∧ ((s.plant.train t).state = .starting ∨ (s.plant.train t).state = .running)
        ∧ (s.plant.train t).current.isSome = true)
    ∧ (s.pins.tro = true ↔ s.prot.mode = .trip)
    ∧ ∀ p, s.pins.attn.get p = true ↔ (s.causes p).flags ≠ 0#16)
  ∧ (s.supply ≠ .running → s.pins = .released)

/-- R89, R102, R118, R121, R132: the lists and records agree: the ready list holds the READY orders, a gate's wait list
its WAITING orders and its holders its CURRENT orders, each once; a train's staged and current orders are those whose
records name it; a train has a current order exactly while it is STARTING or RUNNING, and a staged order only while it is
IDLE in restart inhibit or STOPPING. -/
def Plant.linked (p : Plant) : Prop :=
  p.ready.Nodup ∧ (∀ e, e ∈ p.ready ↔ (p.ord e).state = .ready)
  ∧ (∀ g, (p.gate g).wait.Nodup ∧ (p.gate g).holders.Nodup)
  ∧ (∀ g e, e ∈ (p.gate g).wait ↔ (p.ord e).state = .waiting ∧ (p.ord e).gate = g)
  ∧ (∀ g e, e ∈ (p.gate g).holders ↔ (p.ord e).state = .current ∧ (p.ord e).gate = g)
  ∧ (∀ t e, (p.train t).staged = some e ↔ (p.ord e).state = .staged ∧ (p.ord e).train = some t)
  ∧ (∀ t e, (p.train t).current = some e ↔ (p.ord e).state = .current ∧ (p.ord e).train = some t)
  ∧ (∀ e, (p.ord e).state = .staged ∨ (p.ord e).state = .current →
      ∃ t, (p.ord e).train = some t ∧ trainKind t = (p.ord e).kind)
  ∧ (∀ t, (p.train t).current.isSome = true ↔ (p.train t).state = .starting ∨ (p.train t).state = .running)
  ∧ ∀ t, (p.train t).staged.isSome = true →
      ((p.train t).state = .idle ∧ (p.train t).inhibit.isSome = true) ∨ (p.train t).state = .stopping

/-- R102, R121: the ready list and each gate's wait list are in falling priority. -/
def Plant.ranked (p : Plant) : Prop :=
  p.ready.Pairwise (fun e x => (p.ord x).priority ≤ (p.ord e).priority)
  ∧ ∀ g, (p.gate g).wait.Pairwise fun e x => (p.ord x).priority ≤ (p.ord e).priority

/-- R118: the holders of a gate never outnumber its outlets, and the mask of a current order's train contains its store. -/
def Plant.withinOutlets (cfg : Cfg) (p : Plant) : Prop :=
  (∀ g : Store × Kind, (p.gate g).holders.length ≤ cfg.outlets g.1 g.2)
  ∧ ∀ t e, (p.train t).current = some e → cfg.maskHas t (p.ord e).store = true

/-- The orders, gates and trains agree, no order is live or retired before the first START_PLANT (R99, R117), and none is
live in TRIP (R113, R115). -/
def State.ordersSound (s : State) : Prop :=
  s.plant.linked ∧ s.plant.ranked ∧ s.plant.withinOutlets s.store.cfg
  ∧ (s.prot.mode = .setup → ∀ e, (s.plant.ord e).state = .free)
  ∧ (s.prot.mode = .trip → ∀ e, (s.plant.ord e).state.live = false)

/-- R143: no train whose owner's link timer has expired is STARTING or RUNNING; in SETUP no train is. -/
def State.dutyLinksLive (s : State) : Prop :=
  ∀ t, (s.plant.train t).state = .starting ∨ (s.plant.train t).state = .running →
    s.prot.mode ≠ .setup ∧ ∀ p, (s.store.cfg.owner.get t).port? = some p → s.prot.timers.get p ≠ .expired

/-- R82..R84, R94: the pair of targets last handed is the pair the state calls for, and the Dispatch Unit holds it. An
open page lies within the book's span (R57). -/
def State.targetsHanded (s : State) : Prop :=
  s.targets = (s.res.bookTarget, s.res.gridTarget) ∧ s.plant.heldBook = s.res.bookTarget
    ∧ s.plant.heldGrid = s.res.gridTarget
    ∧ ∀ g, s.book.page = some g → s.tb.synced = true ∧ 96 * g.day + 95 ≤ s.tb.current + 191

/-- R79: the activation lies within the holding, and is 0 once the GR link timer has expired. An open page lies within the
book's span (R57). -/
def State.activationHeld (s : State) : Prop :=
  0 ≤ s.active.up ∧ 0 ≤ s.active.dn ∧ -s.active.dn ≤ s.res.a ∧ s.res.a ≤ s.active.up
    ∧ (s.prot.timers.gr = .expired → s.res.a = 0)
    ∧ ∀ g, s.book.page = some g → s.tb.synced = true ∧ 96 * g.day + 95 ≤ s.tb.current + 191

/-- R171, R173: a flag is set only in a bit whose enable is set, and an enable only in a bit that has a cause. -/
def State.flagsEnabled (s : State) : Prop :=
  ∀ p, (s.causes p).flags &&& ~~~(s.causes p).enables = 0#16 ∧ (s.causes p).enables &&& ~~~causeBits p = 0#16

/-- A state in which nothing waits to be taken before the next second: no budget and no timer stands at 0, and no
dispatch event is left over (log 3). -/
def State.nothingDue (s : State) : Prop :=
  s.plant.due = false
    ∧ (∀ e, (s.plant.ord e).budgetOut = false)
    ∧ (∀ t, (s.plant.train t).window ≠ some 0 ∧ (s.plant.train t).inhibit ≠ some 0
        ∧ (s.plant.train t).feedback ≠ some 0)
    ∧ ∀ p, s.prot.timers.get p ≠ .running 0

end Sys2Proof.Machine
end

