-- ==== Sys2Proof/Certificates/Slice0/Obligations.lean ====
section
/-! DEFINITION. The statements for the provers. -/

open Sys2Proof Sys2Proof.Machine

/-! ## The queue and the links -/

/-- The block's frame (log 1): a step takes the command at the front of the queue, with the rest left waiting, and an
empty queue idles. -/
def Obligations.StepTakesTheFrontCommand : Prop :=
  ∀ (c : Instr) (rest : List Instr) (s : State),
    (s.pending = c :: rest → step s = exec c (s.withPending rest)) ∧ (s.pending = [] → step s = .next s)

/-- R163, R166, R168, R106: what receiving a well-formed frame leaves, on every link: the timer RUNNING with its configured
length, the receiver in HUNT, and nothing else but what follows the state (power capacities, placement indication,
permit latch, pins) and the passes of the dispatch events that stand: one left over, or the recovery that a frame at an
EXPIRED timer is, with the link live again. R144: receiving itself runs no pass; a recovery's comes at the end of the
step, after the request (log 23). -/
def Obligations.ReceivingAFrameReloadsItsTimer : Prop :=
  ∀ (s : State) (p : Port),
    (s.received p).plant = { s.plant with due := s.plant.due || s.prot.timers.get p == .expired }
    ∧ (s.heard p).prot.timers.get p = .running (s.store.cfg.linkLength.get p)
    ∧ (s.heard p).port p = { s.port p with rx := .hunt, lineIdle := false, buffer := [] }
    ∧ s.sameElsewhere (s.heard p) p ∧ s.sameBooks (s.heard p) ∧ s.prot.same (s.heard p).prot
    ∧ s.head.same (s.heard p).head
    ∧ (s.prot.timers.get p ≠ .expired → s.plant.due = false →
        (s.heard p).plant = { s.plant with placed := (s.heard p).plant.placed })
    ∧ (s.heard p).plant = { ({ s.plant with due := s.plant.due || s.prot.timers.get p == .expired } : Plant).dispatch
        { s.env with live := s.env.live.set p true } with placed := (s.heard p).plant.placed }

namespace Sys2Proof.Claims

/-- Table 10-4: the links a code is permitted on. -/
def permittedOn (code : Nat) (p : Port) : Bool :=
  if code ≤ 19 then p == .pa || p == .pb
  else if code ≤ 41 then p == .mk
  else if code = 42 then p == .mk || p == .gr
  else if code ≤ 49 then p == .gr
  else true

/-- R174: the payload bytes of a request code of Table 10-4. -/
def payloadSize (code : Nat) : Nat :=
  match code with
  | 2 | 3 => 10
  | 4 | 5 | 16 | 64 | 65 => 2
  | 7 | 34 | 35 => 16
  | 11 | 12 | 13 | 39 => 1
  | 14 => 8
  | 15 | 32 => 6
  | 33 | 36 | 37 | 48 => 4
  | 38 => 13
  | _ => 0

end Sys2Proof.Claims

/-- R169 checks 1 to 3, for every request command: a code not in Table 10-4 is answered UNKNOWN, a request on a link it
is not permitted on NOT_PERMITTED, and one of the wrong length BAD_VALUE; nothing else changes. -/
def Obligations.PortChecksInOrder : Prop :=
  ∀ (i : Instr) (code : Byte) (f : Frame) (s : State), i.request? = some (code, f) → s.accepts code f →
    (catalogueCode code = false → exec i s = .next (s.repliesOnly code f .unknown []))
    ∧ (catalogueCode code = true → Sys2Proof.Claims.permittedOn code.toNat f.port = false →
        exec i s = .next (s.repliesOnly code f .notPermitted []))
    ∧ (catalogueCode code = true → Sys2Proof.Claims.permittedOn code.toNat f.port = true →
        f.payload.length ≠ Sys2Proof.Claims.payloadSize code.toNat →
        exec i s = .next (s.repliesOnly code f .badValue []))

/-- R166, R167: the bytes of a request frame, arriving one after the other on an idle line at a receiver in HUNT, do
exactly what the request's command does. (That a request row is a whole frame is log 10, DEDUCED; that the characters
of FRAME_DISCARDED may make up a well-formed frame, which is then taken, is log 11, DESIGN CHOICE.) -/
def Obligations.BytesOfAFrameDoWhatItsRequestDoes : Prop :=
  ∀ (i : Instr) (code : Byte) (f : Frame) (s : State), i.request? = some (code, f) → s.supply = .running →
    (s.port f.port).rx = .hunt → (s.port f.port).lineIdle = true → (s.port f.port).answer = .none →
    f.payload.length ≤ 120 →
    exec (.frameDiscarded f.port ((f.wire code).map .byte)) s = exec i s

/-- R166: a frame whose CRC bytes are not those of its contents is discarded: the receiver returns to HUNT, and
nothing else changes, the link timer included. R166: a gap of 1 ms returns the receiver to HUNT with the line idle,
whatever it was doing, and drops what it had received. R169: at the end of an answer's transmission the repeat memory
holds the frame and the answer, and no answer is outstanding. Nothing else changes. R166: characters act one after the
other; a framing error, a length above 120 and a start byte while an answer is outstanding send the receiver to SKIP,
where it stays whatever follows without a gap; bytes in SKIP are ignored, and so are bytes in HUNT when the first is no
start byte or does not follow an idle line: they only end the line's being idle. Nothing else changes. -/
def Obligations.ReceiverAndEndOfAnswer : Prop :=
  (∀ (code hi lo : Byte) (f : Frame) (s : State), s.supply = .running → (s.port f.port).rx = .hunt →
    (s.port f.port).lineIdle = true → (s.port f.port).answer = .none → f.payload.length ≤ 120 →
    natBytes 2 (f.crc code).toNat ≠ [hi, lo] →
    exec (.frameDiscarded f.port
        ((0xA7#8 :: f.seq :: code :: BitVec.ofNat 8 f.payload.length :: (f.payload ++ [hi, lo])).map .byte)) s
      = .next (s.modPort f.port fun k => { k with rx := .hunt, lineIdle := false, buffer := [] }))
  ∧ (∀ (s : State) (p : Port), s.supply = .running →
    exec (.rxIdleTimeout p) s
        = .next (s.modPort p fun k => { k with rx := .hunt, lineIdle := true, buffer := [] })
    ∧ ∀ (k : FrameKey) (a : Answer), (s.port p).answer = .sending k a →
        exec (.answerSent p) s = .next (s.modPort p fun x => { x with answer := .none, memory := some (k, a) }))
  ∧ (∀ (s : State) (p : Port), s.supply = .running →
    let skips := s.modPort p fun k => { k with rx := .skip, lineIdle := false, buffer := [] }
    let ignores := s.modPort p fun k => { k with lineIdle := false }
    (∀ cs ds, ∃ t, exec (.frameDiscarded p cs) s = .next t
        ∧ exec (.frameDiscarded p (cs ++ ds)) s = exec (.frameDiscarded p ds) t)
    ∧ (∀ cs, exec (.frameDiscarded p (.framingError :: cs)) s = .next skips)
    ∧ ((s.port p).rx = .hunt → (s.port p).lineIdle = true → (s.port p).answer = .none →
        ∀ (seq code len : Byte) (cs : List RxChar), 120 < len.toNat →
          exec (.frameDiscarded p ([0xA7#8, seq, code, len].map .byte ++ cs)) s = .next skips)
    ∧ ((s.port p).rx = .hunt → (s.port p).lineIdle = true → (s.port p).answer ≠ .none →
        ∀ cs, exec (.frameDiscarded p (.byte 0xA7#8 :: cs)) s = .next skips)
    ∧ ((s.port p).rx = .skip → ∀ (b : Byte) (bs : List Byte),
        exec (.frameDiscarded p ((b :: bs).map .byte)) s = .next ignores)
    ∧ ((s.port p).rx = .hunt → ∀ (b : Byte) (bs : List Byte), b ≠ 0xA7#8 ∨ (s.port p).lineIdle = false →
        exec (.frameDiscarded p ((b :: bs).map .byte)) s = .next ignores))

/-- R174: the fields of a payload, each within its field's range, are read back from the bytes that spell them. -/
def Obligations.FieldsReadBackAsWritten : Prop :=
  ∀ l : List (Field × Int), (∀ x ∈ l, x.1.fits x.2) → readFields (l.map (·.1)) (writeFields l) = some (l.map (·.2))

/-! ## What a request's step ends with -/

namespace Sys2Proof.Claims

/-- R93: the train can serve the new order. -/
def serves (cfg : Cfg) (n : NewOrder) (t : Train) : Prop :=
  trainKind t = n.kind ∧ (n.origin = .service → match n.bound with
    | some b => b = t
    | none => ∃ q, n.owner = some q ∧ (cfg.owner.get t).port? = some q)

/-- R93: the measure of a store for an order's kind. -/
def measureOf (env : Env) (k : Kind) (st : Store) : Int :=
  match k with
  | .expand => env.heat.get st
  | .compress => (env.cfg.ceil.get st : Int) - env.heat.get st

/-- R93: the store is one of those that qualify, none of them has a larger measure, and of the equals it is the lowest. -/
def bestStore (env : Env) (k : Kind) (qualifies : Store → Prop) (st : Store) : Prop :=
  qualifies st ∧ ∀ x, qualifies x → measureOf env k x < measureOf env k st
    ∨ (measureOf env k x = measureOf env k st ∧ storeCode st ≤ storeCode x)

/-- R93: the store lies in the mask of a train that can serve, whatever its state. -/
def reachable (env : Env) (n : NewOrder) (x : Store) : Prop := ∃ t, serves env.cfg n t ∧ env.cfg.maskHas t x = true

/-- R93 step 1: the store is a candidate: not ISOLATED, and in the mask of an available train that can serve. -/
def candidate (p : Plant) (env : Env) (n : NewOrder) (x : Store) : Prop :=
  env.isolated.get x = false ∧ ∃ t, serves env.cfg n t ∧ env.cfg.maskHas t x = true
    ∧ (p.train t).state ≠ .offline ∧ (p.train t).state ≠ .fault ∧ (p.train t).state ≠ .lost

/-- R93 step 2: the store's gate for the kind is OPEN with a free permit. -/
def grants (p : Plant) (env : Env) (k : Kind) (x : Store) : Prop :=
  (p.gate (x, k)).isOpen = true ∧ (p.gate (x, k)).holders.length < env.cfg.outlets x k

end Sys2Proof.Claims

namespace Sys2Proof.Claims

/-- R103, R109: a SERVICE order's train is the one it is bound to, or one of its owner link's. -/
def suitsOrder (cfg : Cfg) (o : Order) (t : Train) : Prop :=
  o.origin = .service → match o.bound with
    | some b => b = t
    | none => ∃ x, o.owner = some x ∧ (cfg.owner.get t).port? = some x

/-- R103: the train is compatible with the order, whose bar set is given. -/
def compatibleWith (env : Env) (o : Order) (bars : PerTrain Bool) (t : Train) : Prop :=
  trainKind t = o.kind ∧ (∃ x, (env.cfg.owner.get t).port? = some x ∧ env.live.get x = true)
    ∧ env.cfg.maskHas t o.store = true ∧ bars.get t = false ∧ suitsOrder env.cfg o t ∧ env.mode = .normal

/-- R103: the train is eligible for the order, whose bar set is given. -/
def canStart (p : Plant) (env : Env) (o : Order) (bars : PerTrain Bool) (t : Train) : Prop :=
  compatibleWith env o bars t ∧ (p.train t).state = .idle ∧ (p.train t).inhibit = none

/-- R108: the train is compatible and is IDLE in restart inhibit or STOPPING. -/
def canHold (p : Plant) (env : Env) (o : Order) (t : Train) : Prop :=
  compatibleWith env o o.bars t
    ∧ (((p.train t).state = .idle ∧ (p.train t).inhibit ≠ none) ∨ (p.train t).state = .stopping)

/-- R107, R108: the order's last train when it will do, else the lowest-numbered train that will. -/
def firstChoice (last : Option Train) (ok : Train → Prop) (t : Train) : Prop :=
  ok t ∧ (∀ l, last = some l → ok l → t = l)
    ∧ ((∀ l, last = some l → ¬ ok l) → ∀ x, ok x → trainCode t ≤ trainCode x)

/-- R109, R110: the train's current order is one that may give way to the incoming order; of the same gate, when `own`. -/
def mayGiveWay (p : Plant) (env : Env) (o : Order) (own : Bool) (t : Train) (v : Entry) : Prop :=
  trainKind t = o.kind ∧ (p.train t).current = some v ∧ env.cfg.maskHas t o.store = true ∧ o.bars.get t = false
    ∧ suitsOrder env.cfg o t ∧ (p.ord v).priority < o.priority ∧ (own = true → (p.ord v).store = o.store)

/-- R109: of those that may give way, one of lowest priority, and of these one most recently made current. -/
def isVictim (p : Plant) (env : Env) (o : Order) (own : Bool) (t : Train) (v : Entry) : Prop :=
  mayGiveWay p env o own t v ∧ ∀ x y, mayGiveWay p env o own x y →
    (p.ord v).priority < (p.ord y).priority
      ∨ ((p.ord v).priority = (p.ord y).priority ∧ (p.ord y).currentAt.getD 0 ≤ (p.ord v).currentAt.getD 0)

/-- R108: of the trains that can hold the order, with a staged order of lower priority, one whose staged order has the
lowest priority, and of these the most recently staged. -/
def isDisplaced (p : Plant) (env : Env) (o : Order) (t : Train) (d : Entry) : Prop :=
  let may : Train → Entry → Prop := fun x y =>
    canHold p env o x ∧ (p.train x).staged = some y ∧ (p.ord y).priority < o.priority
  may t d ∧ ∀ x y, may x y → (p.ord d).priority < (p.ord y).priority
    ∨ ((p.ord d).priority = (p.ord y).priority ∧ (p.ord y).stagedAt.getD 0 ≤ (p.ord d).stagedAt.getD 0)

/-- R114: the setpoint a train posts for an order. -/
def postedFor (r : TrainRec) (o : Order) : Nat :=
  match r.cap with
  | none => o.setpoint
  | some c => min o.setpoint c

/-- R102: of two READY orders, `v` stands at the head of its level. -/
def atHead (q : Plant) (v : Entry) : Prop :=
  ∃ a b, q.ready = a ++ v :: b ∧ (∀ x ∈ a, (q.ord v).priority < (q.ord x).priority)
    ∧ ∀ x ∈ b, (q.ord x).priority ≤ (q.ord v).priority

/-- R107: the order is CURRENT on the train, which has gone from IDLE to STARTING, and holds a permit of its gate; nothing
else changes, but for a train on which the order was staged. -/
def placedOn (p q : Plant) (env : Env) (e : Entry) (bars : PerTrain Bool) (t : Train) : Prop :=
  let o := p.ord e
  let g := o.gate
  (q.ord e) = { o with
    state := .current, train := some t, lastTrain := some t, currentAt := some p.seqNo, stagedAt := none, bars := bars }
  ∧ q.train t = { p.train t with
      state := .starting, command := .run, fresh := false, window := some (env.cfg.startWindow.get (trainKind t))
      inhibit := none, feedback := none, fault := none, starts := ((p.train t).starts + 1) % 65536
      current := some e, posted := postedFor (p.train t) o }
  ∧ (∀ x, x ≠ e → q.ord x = p.ord x)
  ∧ (∀ x, x ≠ t → q.train x = if (p.train x).staged = some e then { p.train x with staged := none } else p.train x)
  ∧ (∀ x, x ≠ g → q.gate x = p.gate x) ∧ q.gate g = { p.gate g with holders := (p.gate g).holders ++ [e] }
  ∧ q.ready = p.ready.filter (· != e) ∧ q.causes = p.causes ∧ q.seqNo = p.seqNo + 1

/-- R108: the order is STAGED on the train, and the one it displaces, if any, READY at the head of its level. -/
def stagedOn (p q : Plant) (e : Entry) (t : Train) (d : Option Entry) : Prop :=
  q.ord e = { p.ord e with state := .staged, train := some t, stagedAt := some p.seqNo }
  ∧ q.train t = { p.train t with staged := some e } ∧ (∀ x, x ≠ t → q.train x = p.train x)
  ∧ (∀ x, x ≠ e → d ≠ some x → q.ord x = p.ord x)
  ∧ (∀ x, d = some x → q.ord x = { p.ord x with state := .ready, train := none, stagedAt := none } ∧ atHead q x)
  ∧ (d = none → q.ready = p.ready.filter (· != e))
  ∧ q.gates = p.gates ∧ q.causes = p.causes ∧ q.due = true ∧ q.seqNo = p.seqNo + 1

/-- R109, R110: the order is CURRENT on the victim's train, which goes on as it was, and holds a permit of its own gate;
the victim is READY, at the head of its level; when its permit is freed on another gate, an OPEN one, the head of that
gate's wait list is promoted, before the victim when it is a GRID order of the same level (R122). -/
def relabelledTo (p q : Plant) (e : Entry) (t : Train) (v : Entry) : Prop :=
  let o := p.ord e
  let g := o.gate
  let h := (p.ord v).gate
  q.ord e = { o with
    state := .current, train := some t, lastTrain := some t, currentAt := some p.seqNo, stagedAt := none }
  ∧ q.train t = { p.train t with current := some e, posted := postedFor (p.train t) o }
  ∧ (∀ x, x ≠ t → q.train x = p.train x)
  ∧ q.ord v = { p.ord v with state := .ready, train := none, stagedAt := none }
  ∧ (∃ a b, q.ready = a ++ v :: b ∧ (∀ x ∈ b, (q.ord x).priority ≤ (q.ord v).priority)
      ∧ ∀ x ∈ a, (q.ord v).priority < (q.ord x).priority
        ∨ (h ≠ g ∧ (p.gate h).wait.head? = some x ∧ (p.ord x).origin = .grid))
  ∧ (∀ x, x ≠ e → x ≠ v → if h ≠ g ∧ (p.gate h).isOpen = true ∧ (p.gate h).wait.head? = some x then
      (p.ord x).sameOrder (q.ord x) ∧ (q.ord x).state = .ready
    else q.ord x = p.ord x)
  ∧ (q.gate g).holders = ((p.gate g).holders.filter (· != v)) ++ [e] ∧ v ∉ (q.gate h).holders
  ∧ (q.gate g).wait = (p.gate g).wait
  ∧ (∀ x, (q.gate x).isOpen = (p.gate x).isOpen) ∧ (∀ x, x ≠ g → x ≠ h → q.gate x = p.gate x)
  ∧ q.causes = p.causes ∧ q.due = true ∧ q.seqNo = p.seqNo + 1

/-- R110, R121: the order is WAITING on its gate's wait list, behind every order of its priority or a higher one. -/
def waitsAtGate (p q : Plant) (e : Entry) : Prop :=
  let o := p.ord e
  let g := o.gate
  q.ord e = { o with state := .waiting, train := none, stagedAt := none } ∧ (∀ x, x ≠ e → q.ord x = p.ord x)
  ∧ (∃ a b, (p.gate g).wait = a ++ b ∧ q.gate g = { p.gate g with wait := a ++ e :: b }
      ∧ (∀ x ∈ a, o.priority ≤ (p.ord x).priority) ∧ ∀ x ∈ b, (p.ord x).priority < o.priority)
  ∧ (∀ x, x ≠ g → q.gate x = p.gate x) ∧ q.trains = p.trains ∧ q.ready = p.ready.filter (· != e)
  ∧ q.causes = p.causes ∧ q.seqNo = p.seqNo

/-- Table 6-5: what a pass makes of a READY order. -/
def readyOutcome (p q : Plant) (env : Env) (e : Entry) : Prop :=
  let o := p.ord e
  let isOpen := (p.gate o.gate).isOpen = true
  let free := (p.gate o.gate).holders.length < env.cfg.outlets o.gate.1 o.gate.2
  let starts := canStart p env o o.bars
  let bare := canStart p env o (.all false)
  let holds := fun t => canHold p env o t ∧ (p.train t).staged = none
  let none' (own : Bool) := ∀ t v, ¬ mayGiveWay p env o own t v
  (¬ isOpen → waitsAtGate p q e)
  ∧ (isOpen → ¬ free → none' true → waitsAtGate p q e)
  ∧ (isOpen → ¬ free → ¬ none' true → ∃ t v, isVictim p env o true t v ∧ relabelledTo p q e t v)
  ∧ (isOpen → free → (∃ t, starts t) → ∃ t, firstChoice o.lastTrain starts t ∧ placedOn p q env e o.bars t)
  ∧ (isOpen → free → (∀ t, ¬ starts t) → (∃ t, bare t) →
      ∃ t, firstChoice o.lastTrain bare t ∧ placedOn p q env e (.all false) t)
  ∧ (isOpen → free → (∀ t, ¬ bare t) → (∃ t, holds t) →
      ∃ t, firstChoice o.lastTrain holds t ∧ stagedOn p q e t none)
  ∧ (isOpen → free → (∀ t, ¬ bare t) → (∀ t, ¬ holds t) → (∃ t d, isDisplaced p env o t d) →
      ∃ t d, isDisplaced p env o t d ∧ stagedOn p q e t (some d))
  ∧ (isOpen → free → (∀ t, ¬ bare t) → (∀ t, ¬ holds t) → (∀ t d, ¬ isDisplaced p env o t d) → ¬ none' false →
      ∃ t v, isVictim p env o false t v ∧ relabelledTo p q e t v)
  ∧ (isOpen → free → (∀ t, ¬ bare t) → (∀ t, ¬ holds t) → (∀ t d, ¬ isDisplaced p env o t d) → none' false → q = p)

/-- R111: what a pass makes of a STAGED order. -/
def stagedOutcome (p q : Plant) (env : Env) (e : Entry) : Prop :=
  let o := p.ord e
  let starts := canStart p env o o.bars
  let grants := (p.gate o.gate).isOpen = true
    ∧ (p.gate o.gate).holders.length < env.cfg.outlets o.gate.1 o.gate.2
  (grants → (∃ t, starts t) → ∃ t, firstChoice o.lastTrain starts t ∧ placedOn p q env e o.bars t)
  ∧ (¬ grants ∨ (∀ t, ¬ starts t) → q = p)

/-- R106: one order stands before another in a pass: of a higher priority; READY before STAGED; READY ones by the ready
list, STAGED ones by time staged. -/
def consideredBefore (p : Plant) (e x : Entry) : Prop :=
  let o := p.ord e
  let y := p.ord x
  y.priority < o.priority ∨ (y.priority = o.priority ∧ match o.state, y.state with
    | .ready, .ready => p.ready.idxOf e < p.ready.idxOf x
    | .ready, .staged => True
    | .staged, .staged => o.stagedAt.getD 0 ≤ y.stagedAt.getD 0
    | _, _ => False)

end Sys2Proof.Claims

/-- R106: every dispatch pass keeps what an order is made of, and moves a train from IDLE to STARTING or not at all: no
order is created or retired (the FREE and RETIRED entries stay as they are, the live orders stay live), no gate opens
or closes, no cause is raised, no target or id changes. Outside NORMAL nothing is passed. When the passes are done no
dispatch event is left over. R93: the store of a new order submitted without one is, of the candidates whose gate is
OPEN with a free permit, the one of largest measure, the lowest-numbered of equals; with no such candidate, of all the
candidates; with no candidate, of the stores that are not ISOLATED in the mask of any train that can serve; and when
all of these are ISOLATED, of all of them. (A store when no train can serve is log 25's case.) R106: in NORMAL a
dispatch event calls for a pass, which considers the READY and STAGED orders once each, in dispatch order, each in the
condition in which the pass found it; a pass that makes no event is the last. Table 6-5, R104, R107, R108, R109, R110,
R111: what becomes of the order considered: placed, staged (displacing or not), relabelled, sent to its gate's wait list
or left as it is, on the train that the rules choose.
(That no event is left over rests on the bound of 256 passes, and that staging marks an event, on log 23, DEDUCED; when a
bar set is emptied, past the gate and not for a STAGED order, is log 24, and the stamps' values log 21, DEDUCED.) -/
def Obligations.DispatchPassesAndStoreChoice : Prop :=
  (∀ (env : Env) (p : Plant),
    p.passFrom env.cfg (p.dispatch env) ∧ (p.dispatch env).due = false
    ∧ (env.mode ≠ .normal → p.dispatch env = { p with due := false })
    ∧ (p.linked → (p.dispatch env).linked ∧ ∀ e,
        if (p.ord e).state.live = true then
          ((p.dispatch env).ord e).state.live = true ∧ ((p.dispatch env).ord e).cause = (p.ord e).cause
          ∧ ((p.dispatch env).ord e).retiredAt = (p.ord e).retiredAt
        else (p.dispatch env).ord e = p.ord e))
  ∧ (∀ (p : Plant) (env : Env) (n : NewOrder) (e : Entry) (q : Plant), p.create env n = some (e, q) →
    n.store = none → (∀ x, n.owner = some x → isPlant x = true) →
    let st := (q.ord e).store
    let first := fun x => Sys2Proof.Claims.candidate p env n x ∧ Sys2Proof.Claims.grants p env n.kind x
    let live := fun x => Sys2Proof.Claims.reachable env n x ∧ env.isolated.get x = false
    ((∃ x, first x) → Sys2Proof.Claims.bestStore env n.kind first st)
    ∧ ((¬ ∃ x, first x) → (∃ x, Sys2Proof.Claims.candidate p env n x) →
        Sys2Proof.Claims.bestStore env n.kind (Sys2Proof.Claims.candidate p env n) st)
    ∧ ((¬ ∃ x, Sys2Proof.Claims.candidate p env n x) → (∃ x, live x) → Sys2Proof.Claims.bestStore env n.kind live st)
    ∧ ((¬ ∃ x, live x) → (∃ x, Sys2Proof.Claims.reachable env n x) →
        Sys2Proof.Claims.bestStore env n.kind (Sys2Proof.Claims.reachable env n) st))
  ∧ (∀ (p : Plant) (env : Env), p.linked → p.ranked → env.mode = .normal → p.due = true →
    (∀ e, (p.ord e).priority ≤ 6) →
    ∃ l : List Entry, l.Nodup ∧ (∀ e, e ∈ l ↔ (p.ord e).state = .ready ∨ (p.ord e).state = .staged)
      ∧ l.Pairwise (Sys2Proof.Claims.consideredBefore p)
      ∧ p.pass env = l.foldl (fun q e =>
          if (q.ord e).state = (p.ord e).state then
            if (p.ord e).state = .ready then q.considerReady env e else q.considerStaged env e
          else q) { p with due := false }
      ∧ ((p.pass env).due = false → p.dispatch env = p.pass env))
  ∧ (∀ (p : Plant) (env : Env) (e : Entry), p.linked → p.ranked →
    (∀ x, (p.ord e).owner = some x → isPlant x = true) →
    ((p.ord e).state = .ready → Sys2Proof.Claims.readyOutcome p (p.considerReady env e) env e)
    ∧ ((p.ord e).state = .staged → Sys2Proof.Claims.stagedOutcome p (p.considerStaged env e) env e))

namespace Sys2Proof.Claims

/-- R147: the permit latch of a train. -/
def latchOf (mode : PlantMode) (masked : Bool) (r : TrainRec) : Bool :=
  match mode with
  | .normal => (r.state == .starting || r.state == .running) && r.current.isSome
  | .hold => (r.state == .starting || r.state == .running) && r.current.isSome && masked
  | .setup | .trip => false

/-- R174: the position of a value in the list that its record table gives. -/
def place {α : Type} [BEq α] (l : List α) (x : α) : Int := (l.idxOf x : Nat)

/-- A byte of flags, the first in bit 0. -/
def bits (l : List Bool) : Int := ((l.zipIdx.map fun x => if x.1 then 2 ^ x.2 else 0).sum : Nat)

/-- R174: an absent field is sent as 0. -/
def present {α : Type} (o : Option α) (f : α → Int) : Int := match o with
  | some x => f x
  | none => 0

/-- Table 8-1's list of states. -/
def stateCode (x : TrainState) : Int := place [.offline, .idle, .starting, .running, .stopping, .fault, .lost] x
/-- Table 8-1's list of commands. -/
def commandCode (x : Command) : Int := place [.run, .stop, .none] x
/-- The plant modes in the order of Table 9-4's rows (log 36). -/
def modeCode (x : PlantMode) : Int := place [.setup, .normal, .hold, .trip] x
/-- R174: the coding of trains, of stores and of links. -/
def trainPlace (x : Train) : Int := place [.c0, .c1, .c2, .c3, .x0, .x1, .x2, .x3] x
def storePlace (x : Store) : Int := place [.s0, .s1, .s2] x
def portPlace (x : Port) : Int := place [.pa, .pb, .mk, .gr] x

/-- Table 10-7. -/
def slotRecord (s : State) (x : Slot) : Fields :=
  [(.u4, s.tb.current), (.u2, s.tb.second), (.u4, x.tag), (.u1, place [.free, .opened, .firm, .active, .closed] x.state),
   (.u1, bits [x.state != .free, x.risk.isSome, x.eff.isSome, x.deviation.isSome]),
   (.s4, x.vals.e), (.u4, x.vals.up), (.u4, x.vals.dn), (.u1, x.revisions),
   (.u1, present x.risk fun r =>
      128 + place [.floor, .heatEmpty, .ceiling, .heatFull, .powerUp, .powerDown, .blackout] r),
   (.s4, present x.eff fun f => f.e), (.u4, present x.eff fun f => f.up), (.u4, present x.eff fun f => f.dn),
   (.s4, present x.eff fun f => f.curtailment), (.s8, present x.eff fun f => f.deliveredNet),
   (.s8, present x.eff fun f => f.activated), (.s8, present x.deviation fun d => d)]

/-- Table 10-8: the entry of a train. -/
def trainEntry (s : State) (t : Train) : Fields :=
  let r := s.plant.train t
  let inUse : Option Store := match r.current with
    | some e => some (s.plant.ord e).store
    | none => none
  [(.u1, trainPlace t), (.u1, stateCode r.state), (.u1, commandCode r.command),
   (.u1, bits [s.prot.latch.get t, r.fresh, inUse.isSome, r.cap.isSome, r.fault.isSome, r.reported.isSome]),
   (.u4, r.posted), (.u1, present inUse storePlace), (.u4, present r.cap fun n => (n : Int)),
   (.u1, present r.fault (place [.startTimeout, .stopTimeout, .feedbackMismatch, .reported])), (.u4, r.power),
   (.u1, present r.reported (place [.stopped, .starting, .running, .stopping, .unavailable])),
   (.u2, present r.inhibit fun n => (n : Int)), (.u2, r.starts)]

/-- Table 10-8 note 2. -/
def gateEntry (s : State) (x : Store) (k : Kind) : Fields :=
  let g := s.plant.gate (x, k)
  let outlets := match k with
    | .expand => s.store.cfg.drawOutlets.get x
    | .compress => s.store.cfg.fillOutlets.get x
  [(.u1, (if g.isOpen then 1 else 0) + 2 * g.holders.length + 16 * outlets), (.u1, g.wait.length)]

/-- R149, Table 10-8 note 1: the POLL payload. -/
def pollRecord (s : State) (p : Port) : Fields :=
  let mine := [Train.c0, .c1, .c2, .c3, .x0, .x1, .x2, .x3].filter fun t => (s.store.cfg.owner.get t).port? = some p
  [(.u1, (mine.length : Int))] ++ mine.flatMap (trainEntry s)
    ++ [(.u1, modeCode s.prot.mode), (.u1, bits [s.prot.chargeInhibit, s.prot.dischargeInhibit, s.prot.isolated.s0,
          s.prot.isolated.s1, s.prot.isolated.s2])]
    ++ gateEntry s .s0 .expand ++ gateEntry s .s0 .compress ++ gateEntry s .s1 .expand ++ gateEntry s .s1 .compress
    ++ gateEntry s .s2 .expand ++ gateEntry s .s2 .compress

/-- Table 10-9. -/
def orderRecord (o : Order) (e : Entry) : Fields :=
  let trains : List Train := match o.kind with
    | .compress => [.c0, .c1, .c2, .c3]
    | .expand => [.x0, .x1, .x2, .x3]
  let stamp := fun (x : Option Nat) => present x fun n => (n : Int)
  [(.u2, o.id), (.u1, (e.val : Int)), (.u1, place [.book, .grid, .service] o.origin),
   (.u1, place [.compress, .expand] o.kind), (.u1, o.priority),
   (.u1, place [.free, .ready, .waiting, .staged, .current, .retired] o.state),
   (.u1, bits [o.bound.isSome, o.owner.isSome, o.lastTrain.isSome, o.budget.isSome, o.train.isSome, o.cause.isSome,
      o.stagedAt.isSome, o.currentAt.isSome]),
   (.u4, o.setpoint), (.u1, storePlace o.store), (.u1, present o.bound trainPlace), (.u1, present o.owner portPlace),
   (.u1, bits (trains.map fun t => o.bars.get t)), (.u1, present o.lastTrain trainPlace),
   (.u2, present o.budget fun n => (n : Int)), (.u1, present o.train trainPlace),
   (.u1, present o.cause (place [.retarget, .budgetEnd, .withdrawn, .trip, .inhibit, .heatExhausted, .heatFull,
      .isolated])),
   (.u8, o.created), (.u8, stamp o.stagedAt), (.u8, stamp o.currentAt), (.u8, stamp o.retiredAt)]

/-- R20, Table 1-1: the account, RECON_FAULT by its list 'set, clear' (log 13 for ISOLATED). -/
def inventoryRecord (s : State) : Fields :=
  let v := s.inv
  let store := fun (x : Store) => ([(.u4, v.heat.get x), (.u4, s.store.cfg.capacity.get x),
    (.u1, bits [s.prot.isolated.get x])] : Fields)
  ([(.u4, v.mass), (.s2, v.gramRem), (.u1, bits [v.seeded]), (.u1, place [.wellhead, .trainSum] v.source)] : Fields)
    ++ store .s0 ++ store .s1 ++ store .s2
    ++ ([(.u1, v.invalidStreak), (.u1, v.cleanStreak), (.s8, v.sumWellhead), (.s8, v.sumTrains), (.s8, v.throughput),
        (.u2, v.windowSeconds), (.u1, v.passStreak), (.u1, place [true, false] v.reconFault)] : Fields)

/-- R26, R25: the headroom figures, each energy at most 16,777,215 kWh, after a presence byte (log 12). -/
def headroomRecord (s : State) : Fields :=
  let h := s.head
  let kWh := fun (n : Nat) => ((min n 16777215 : Nat) : Int)
  [(.u1, bits [h.eHeatD.isSome, h.eHeatC.isSome]), (.u4, kWh h.d), (.u4, kWh h.c), (.u4, kWh h.eAirD),
   (.u4, present h.eHeatD kWh), (.u4, kWh h.dRaw), (.u4, kWh h.eAirC), (.u4, present h.eHeatC kWh), (.u4, kWh h.cRaw),
   (.u4, h.pxCap), (.u4, h.pcCap), (.u1, place [true, false] s.inv.reconFault), (.u1, s.store.cfg.derate),
   (.u1, bits [s.inv.seeded])]

/-- R87: the active slot's figures `f` and the reserve's, after a presence byte (log 12; kinds by Table 5-1, log 13). -/
def activeRecord (s : State) (f : Effective) : Fields :=
  let target := fun (x : Target) => ([(.u4, present x fun y => (y.2 : Int)),
    (.u1, present x fun y => place [.expand, .compress] y.1)] : Fields)
  ([(.u1, bits [s.res.bookTarget.isSome, s.res.gridTarget.isSome]), (.u4, s.tb.current), (.u2, s.tb.second),
   (.s4, f.e), (.u4, f.up), (.u4, f.dn), (.s4, s.res.a), (.s4, s.res.requested), (.s8, f.deliveredNet),
   (.s8, f.activated)] : Fields) ++ target s.res.bookTarget ++ target s.res.gridTarget
    ++ [(.u1, bits [s.res.withheld]), (.u1, s.res.wait), (.u1, modeCode s.prot.mode)]

/-- R83: what the plant mode and the inhibits leave of a target. -/
def cut (s : State) (t : Target) : Target :=
  match t with
  | none => none
  | some (k, w) =>
    if s.prot.mode = .setup ∨ s.prot.mode = .trip then none
    else if (k = .compress ∧ s.prot.chargeInhibit = true) ∨ (k = .expand ∧ s.prot.dischargeInhibit = true) then none
    else some (k, w)

/-- R116: the summary of QUERY_ORDER(0): a presence byte for the four targets, the READY ids after their number, the
number of orders in each condition of Table 6-1, the held and the effective targets, the short mark and the placement
indication (log 12, DESIGN CHOICE; log 13). -/
def summaryRecord (s : State) : Fields :=
  let p := s.plant
  let count := fun (x : OrderState) => (((List.finRange 24).filter fun e => (p.ord e).state == x).length : Int)
  let target := fun (x : Target) => ([(.u4, present x fun y => (y.2 : Int)),
    (.u1, present x fun y => place [.compress, .expand] y.1)] : Fields)
  let book := cut s p.heldBook
  let grid := cut s p.heldGrid
  ([(.u1, bits [p.heldBook.isSome, p.heldGrid.isSome, book.isSome, grid.isSome]), (.u1, (p.ready.length : Int))] : Fields)
    ++ p.ready.map (fun e => (.u2, ((p.ord e).id : Int)))
    ++ [(.u1, count .free), (.u1, count .ready), (.u1, count .waiting), (.u1, count .staged), (.u1, count .current),
        (.u1, count .retired)]
    ++ target p.heldBook ++ target p.heldGrid ++ target book ++ target grid
    ++ [(.u1, bits [p.short]), (.u1, place [true, false] p.placed)]

/-- R74: the slots at risk from the current interval to 191 beyond it. -/
def atRisk (s : State) : List Slot :=
  ((List.range 192).map s.book.slot).filter fun x =>
    s.tb.synced && x.state != .free && decide (s.tb.current ≤ x.tag ∧ x.tag ≤ s.tb.current + 191) && x.risk.isSome

/-- R74: the Sweep's figures, the earliest interval at risk with its reason, and the number at risk, after a presence byte
(log 12). -/
def sweepRecord (s : State) : Fields :=
  let slots := atRisk s
  let first := slots.find? fun x => slots.all fun y => decide (x.tag ≤ y.tag)
  [(.u1, bits [first.isSome, first.isSome]), (.u1, bits [s.sweep.running]), (.u4, s.sweep.base),
   (.u1, if s.sweep.running = true then s.sweep.pointer else 0), (.u2, s.sweep.cycles),
   (.u4, present first fun x => (x.tag : Int)),
   (.u1, present first fun x => present x.risk
      (place [.floor, .heatEmpty, .ceiling, .heatFull, .powerUp, .powerDown, .blackout])), (.u1, (slots.length : Int))]

/-- R54: the four windows, each with its hit flag. -/
def windowRecord (s : State) : Fields :=
  let one := fun (w : Window) => ([(.u4, w.base), (.u1, w.width),
    (.u1, bits [w.noDischarge, w.noCharge, w.noUp, w.noDown]), (.u1, bits [w.enabled]), (.u1, bits [w.hit])] : Fields)
  one s.book.windows[0] ++ one s.book.windows[1] ++ one s.book.windows[2] ++ one s.book.windows[3]

/-- Table 11-2: the first check that the working configuration would fail, with its index. -/
def firstFailing (s : State) : Option (Int × Option Int) :=
  let c := s.store.cfg
  let stores := [Store.s0, .s1, .s2].filter fun x =>
    !decide (c.floor.get x < c.ceil.get x ∧ c.ceil.get x ≤ c.capacity.get x)
  let trains := [Train.c0, .c1, .c2, .c3, .x0, .x1, .x2, .x3].filter fun x =>
    [Store.s0, .s1, .s2].all fun y => !(c.storeMask.get x).get y
  let kinds := [([Train.c0, .c1, .c2, .c3], (0 : Int)), ([Train.x0, .x1, .x2, .x3], 1)].filter fun x =>
    x.1.all fun y => (c.owner.get y).port? == none
  if s.store.unvalidated = true then some (1, none)
  else if c.mCeil ≤ c.mFloor then some (2, none)
  else if c.rating.compress < 2 * c.minLoad.compress then some (3, none)
  else if c.rating.expand < 2 * c.minLoad.expand then some (4, none)
  else match stores, trains, kinds with
    | x :: _, _, _ => some (5, some (storePlace x))
    | [], x :: _, _ => some (6, some (trainPlace x))
    | [], [], x :: _ => some (7, some x.2)
    | [], [], [] => none

/-- R178: the status of the store, the check that fails after a presence byte for its index (log 12; the outcome's byte is
log 36; NONE is 0). -/
def storeRecord (s : State) : Fields :=
  let check := firstFailing s
  let index := match check with
    | some (_, i) => i
    | none => none
  [(.u1, bits [index.isSome]), (.u1, bits [s.store.unvalidated]), (.u1, place [.image, .defaults] s.store.outcome),
   (.u1, bits [s.store.write.isSome]), (.u1, present check fun x => x.1), (.u1, present index fun i => i)]

/-- R27: the power capacity of a kind. -/
def powerOf (s : State) (k : Kind) (inhibited : Bool) : Nat :=
  if inhibited then 0
  else s.store.cfg.rating.get k
    * ((trainsOf k).filter fun t => (s.plant.train t).state != .offline && (s.plant.train t).state != .fault
        && (s.plant.train t).state != .lost).length

end Sys2Proof.Claims

/-! ## Requests that read -/

/-- R149, R20, R26, R74, R87: POLL, QUERY_INVENTORY, QUERY_HEADROOM, QUERY_SWEEP and QUERY_ACTIVE answer OK with their
records (a pass that stands comes before the answer: log 34) and change nothing; QUERY_ACTIVE is refused NOT_SYNCED
while the Timebase is unsynchronised. R116, R52, R178: QUERY_ORDER, QUERY_SLOT and CONFIG_READ answer the record named,
or the summary or the store status (id 0; item 0, index 0), and are refused BAD_VALUE when there is no such record;
QUERY_SLOT is refused NOT_SYNCED first. Nothing changes. R174, Table 10-7, Table 10-8, Table 10-9: the slot, POLL and
order records are spelled field by field; so are the answers of QUERY_INVENTORY, QUERY_HEADROOM, QUERY_ACTIVE and
QUERY_SWEEP, the summary and the store status with the first check of Table 11-2 that fails, whose order, presence bytes
and codes are logs 12 and 13; mode and load outcome bytes are log 36. -/
def Obligations.QueriesAnswerAndChangeNothing : Prop :=
  (∀ (f : Frame) (s : State), f.payload = [] →
    (isPlant f.port = true → s.accepts 1#8 f →
        exec (.poll f) s = .next (s.repliesOnly 1#8 f .ok (Sys2Proof.Claims.pollRecord (s.heard f.port) f.port)))
    ∧ (isPlant f.port = true → s.accepts 6#8 f →
        exec (.queryInventory f) s = .next (s.repliesOnly 6#8 f .ok (Sys2Proof.Claims.inventoryRecord (s.heard f.port))))
    ∧ (isPlant f.port = false → s.accepts 42#8 f →
        exec (.queryHeadroom f) s = .next (s.repliesOnly 42#8 f .ok (Sys2Proof.Claims.headroomRecord (s.heard f.port))))
    ∧ (f.port = .mk → s.accepts 40#8 f →
        exec (.querySweep f) s = .next (s.repliesOnly 40#8 f .ok (Sys2Proof.Claims.sweepRecord (s.heard f.port))))
    ∧ (f.port = .gr → s.accepts 49#8 f → s.tb.synced = true →
        exec (.queryActive f) s = .next (s.repliesOnly 49#8 f .ok
          (Sys2Proof.Claims.activeRecord (s.heard f.port) s.active)))
    ∧ (f.port = .gr → s.accepts 49#8 f → s.tb.synced = false →
        exec (.queryActive f) s = .next (s.repliesOnly 49#8 f .notSynced [])))
  ∧ (∀ (f : Frame) (s : State),
    (∀ id, isPlant f.port = true → s.accepts 5#8 f → readFields [.u2] f.payload = some [id] →
      exec (.queryOrder f) s = .next
        (if id = 0 then s.repliesOnly 5#8 f .ok (Sys2Proof.Claims.summaryRecord (s.heard f.port))
         else match (s.received f.port).plant.entryOf id with
           | some e => s.repliesOnly 5#8 f .ok (Sys2Proof.Claims.orderRecord ((s.heard f.port).plant.ord e) e)
           | none => s.repliesOnly 5#8 f .badValue []))
    ∧ (∀ n, f.port = .mk → s.accepts 33#8 f → readFields [.u4] f.payload = some [n] →
      exec (.querySlot f) s = .next
        (if s.tb.synced = false then s.repliesOnly 33#8 f .notSynced []
         else if (s.book.slot n.toNat).state ≠ .free ∧ (s.book.slot n.toNat).tag = n.toNat then
           s.repliesOnly 33#8 f .ok (Sys2Proof.Claims.slotRecord s (s.book.slot n.toNat))
         else s.repliesOnly 33#8 f .badValue []))
    ∧ (∀ code i, isPlant f.port = true → s.accepts 16#8 f → readFields [.u1, .u1] f.payload = some [code, i] →
      exec (.configRead f) s = .next
        (if code = 0 ∧ i = 0 then s.repliesOnly 16#8 f .ok (Sys2Proof.Claims.storeRecord (s.heard f.port))
         else if itemExists code.toNat i.toNat then
           s.repliesOnly 16#8 f .ok [(.u1, code.toNat), (.u1, i.toNat), (.u4, s.store.cfg.read code.toNat i.toNat)]
         else s.repliesOnly 16#8 f .badValue [])))

/-! ## Trains and orders: requests -/

namespace Sys2Proof.Claims

/-- R9: the store to which a reported mass is attributed. -/
def massStore (s : State) (t : Train) : Store :=
  match (s.plant.train t).current, s.inv.lastStore.get t with
  | some e, _ => (s.plant.ord e).store
  | none, some st => st
  | none, none =>
    let m := s.store.cfg.storeMask.get t
    if m.s0 then .s0 else if m.s1 then .s1 else if m.s2 then .s2 else .s0

/-- Table 8-2: the state a report makes, from the state, the reported state and the feedback. -/
def reportTable : TrainState → Reported → Bool → TrainState
  | .offline, .stopped, fb => if fb then .offline else .idle
  | .offline, .unavailable, _ => .offline
  | .offline, _, _ => .stopping
  | .idle, .stopped, _ => .idle
  | .idle, .unavailable, _ => .offline
  | .idle, _, _ => .stopping
  | .starting, .running, fb => if fb then .running else .starting
  | .starting, .unavailable, _ => .fault
  | .starting, _, _ => .starting
  | .running, .stopped, _ => .fault
  | .running, .unavailable, _ => .fault
  | .running, _, _ => .running
  | .stopping, .stopped, fb => if fb then .stopping else .idle
  | .stopping, .unavailable, fb => if fb then .stopping else .offline
  | .stopping, _, _ => .stopping
  | .fault, _, _ => .fault
  | .lost, .stopped, fb => if fb then .stopping else .idle
  | .lost, _, _ => .stopping

/-- R142: the command posted on entry to a state. -/
def postedCommand : TrainState → Command
  | .starting | .running => .run
  | .stopping | .fault | .lost => .stop
  | .idle | .offline => .none

end Sys2Proof.Claims

/-- R133, R9: a TRAIN_REPORT of the owner is taken in every mode: the mass goes to one accumulator, which saturates,
and the last store is set; the power and the last report, marked fresh, are replaced; the state moves by the report;
the answer carries state, command, setpoint and permit (the permit as one byte, 1 or 0: log 13, DEDUCED; all of them
as the step's passes leave them: log 34, DESIGN CHOICE). Nothing else changes. R133 steps 1 and 2: a report of no train,
of no state, of too much power or mass is refused BAD_VALUE, and then one of a train that is not the link's NOT_OWNER;
nothing changes. -/
def Obligations.TrainReports : Prop :=
  (∀ (f : Frame) (s : State) (tr rep power kg : Int) (t : Train) (r : Reported),
    s.accepts 2#8 f → isPlant f.port = true → readFields [.u1, .u1, .u4, .u4] f.payload = some [tr, rep, power, kg] →
    trainOf? tr = some t → reportedOf? rep = some r → power ≤ 250000 → kg ≤ 1000000 →
    (s.store.cfg.owner.get t).port? = some f.port →
    let u := s.received f.port
    let st := Sys2Proof.Claims.massStore u t
    let v : State := { u with
      inv := { u.inv with
        acc := u.inv.acc.set t ((u.inv.acc.get t).set st (min 40000000 ((u.inv.acc.get t).get st + kg.toNat)))
        lastStore := u.inv.lastStore.set t (some st) }
      plant := (u.plant.modTrain t fun x =>
        { x with power := power.toNat, reported := some r, fresh := true }).reportMove u.env t r }
    exec (.trainReport f) s = .next (State.reply 2#8 f (taken v .ok fun w =>
      let x := w.plant.train t
      [(.u1, Sys2Proof.Claims.stateCode x.state), (.u1, Sys2Proof.Claims.commandCode x.command), (.u4, x.posted),
       (.u1, if w.prot.latch.get t then 1 else 0)])))
  ∧ (∀ (f : Frame) (s : State) (tr rep power kg : Int),
    s.accepts 2#8 f → isPlant f.port = true → readFields [.u1, .u1, .u4, .u4] f.payload = some [tr, rep, power, kg] →
    (trainOf? tr = none ∨ reportedOf? rep = none ∨ 250000 < power ∨ 1000000 < kg →
        exec (.trainReport f) s = .next (s.repliesOnly 2#8 f .badValue []))
    ∧ (∀ t r, trainOf? tr = some t → reportedOf? rep = some r → power ≤ 250000 → kg ≤ 1000000 →
        (s.store.cfg.owner.get t).port? ≠ some f.port →
        exec (.trainReport f) s = .next (s.repliesOnly 2#8 f .notOwner [])))

namespace Sys2Proof.Claims

/-- R102: the order is READY, at the tail of its level: behind every order of its priority or a higher one. -/
def atTail (p q : Plant) (e : Entry) : Prop :=
  (q.ord e).state = .ready ∧ ∃ a b, p.ready = a ++ b ∧ q.ready = a ++ e :: b
    ∧ (∀ x ∈ a, (p.ord e).priority ≤ (p.ord x).priority) ∧ ∀ x ∈ b.head?, (p.ord x).priority < (p.ord e).priority

end Sys2Proof.Claims

/-- Table 8-2, R132, R134, R142: what a report makes of a train that holds no staged order, and of no other train. A
change of state posts the command of the state entered, marks the report stale and takes a current order away but on
completing a start; a fault raises TRAIN_FAULT on the owner's link alone. R112, R136, R137, R140: of a train that holds
one: IDLE to STOPPING, and STOPPING to IDLE with its restart inhibit loaded, keep it, each a dispatch event; an inhibit
of 0 s runs out as it is loaded; to OFFLINE it returns to the tail of its ready level; otherwise nothing changes. -/
def Obligations.ReportMovesTheTrainByTable82 : Prop :=
  (∀ (p : Plant) (env : Env) (t : Train) (r : Reported), (p.train t).staged = none →
    (∀ e, (p.train t).current = some e → (p.ord e).state = .current ∧ (p.ord e).train = some t) →
    let q := p.reportMove env t r
    let x := p.train t
    let y := q.train t
    y.state = Sys2Proof.Claims.reportTable x.state r (env.feedback.get t)
    ∧ (y.state = x.state → y = x)
    ∧ (y.state ≠ x.state →
        y.command = Sys2Proof.Claims.postedCommand y.state ∧ y.fresh = false ∧ y.power = x.power ∧ y.reported = x.reported
        ∧ y.posted = x.posted ∧ y.cap = x.cap ∧ y.starts = x.starts ∧ y.feedback = none ∧ y.staged = none
        ∧ (y.state ≠ .running → x.state = .starting ∨ x.state = .running → y.current = none)
        ∧ y.window = (if y.state = .stopping then some (env.cfg.stopWindow.get (trainKind t)) else none)
        ∧ y.fault = (if y.state = .fault then some .reported else none)
        ∧ y.inhibit = (if y.state = .idle ∧ x.state ≠ .offline ∧ env.cfg.restartInhibit.get (trainKind t) ≠ 0 then
            some (env.cfg.restartInhibit.get (trainKind t)) else none))
    ∧ (∀ z, z ≠ t → q.train z = p.train z)
    ∧ (∀ port, (q.causes.get port) =
        if y.state = .fault ∧ x.state ≠ .fault ∧ (env.cfg.owner.get t).port? = some port then
          (p.causes.get port).raise (causeMask port .trainFault) else p.causes.get port))
  ∧ (∀ (p : Plant) (env : Env) (t : Train) (r : Reported) (e : Entry), p.linked → (p.train t).staged = some e →
    let q := p.reportMove env t r
    let x := p.train t
    let becomes := Sys2Proof.Claims.reportTable x.state r (env.feedback.get t)
    let inhibit := env.cfg.restartInhibit.get (trainKind t)
    let put : TrainRec → Plant := fun y => { p with trains := p.trains.set t y }
    let moved : TrainRec := { x with
      state := becomes, command := Sys2Proof.Claims.postedCommand becomes, fresh := false, window := none
      inhibit := none
      feedback := none, fault := none }
    (x.state = .idle ∨ x.state = .stopping)
    ∧ (becomes = x.state → q = p)
    ∧ (becomes ≠ x.state → becomes = .stopping → q = { put { moved with
        window := some (env.cfg.stopWindow.get (trainKind t)) } with due := true })
    ∧ (becomes ≠ x.state → becomes = .idle → q = if inhibit ≠ 0 then
          { put { moved with inhibit := some inhibit } with due := true }
        else (put { moved with inhibit := some 0 }).inhibitOut env t)
    ∧ (becomes = .offline → q.train t = { moved with staged := none } ∧ Sys2Proof.Claims.atTail p q e
        ∧ (p.ord e).sameOrder (q.ord e) ∧ (∀ y, y ≠ e → q.ord y = p.ord y) ∧ (∀ z, z ≠ t → q.train z = p.train z)
        ∧ q.gates = p.gates ∧ q.causes = p.causes ∧ q.due = true)
    ∧ (becomes = .idle ∨ becomes = .stopping ∨ becomes = .offline))

/-- R99, R91: a SUBMIT_SERVICE that passes the checks of Table 6-4 makes one order and answers its id, store and
setpoint: OK, or CLAMPED when the setpoint had to be brought into the kind's minimum load to rating. Table 6-4: the
refusals of SUBMIT_SERVICE, in order: BAD_VALUE for a field out of its range (kind known, setpoint at most 1,000,000,
priority at most 5, store and train known or 255 for ANY, budget 60 to 14,400), and for a named train of the other kind
or whose store mask lacks the named store; NOT_OWNER; MODE; TABLE_FULL. Nothing changes. -/
def Obligations.ServiceSubmissions : Prop :=
  (∀ (f : Frame) (s : State) (vs : List Int) (x : Submission) (e : Entry) (q : Plant),
    s.accepts 3#8 f → isPlant f.port = true → readFields [.u1, .u4, .u1, .u1, .u1, .u2] f.payload = some vs →
    readSubmission vs = some x →
    (∀ t, x.train = some t → trainKind t = x.kind ∧ ∀ st, x.store = some st → s.store.cfg.maskHas t st = true) →
    (match x.train with
      | some t => (s.store.cfg.owner.get t).port? = some f.port
      | none => ∃ t, trainKind t = x.kind ∧ (s.store.cfg.owner.get t).port? = some f.port) →
    (s.prot.mode = .normal ∨ s.prot.mode = .hold) →
    (match x.kind with
      | .compress => s.prot.chargeInhibit = false
      | .expand => s.prot.dischargeInhibit = false) →
    let u := s.received f.port
    let w := min (max x.setpoint (s.store.cfg.minLoad.get x.kind)) (s.store.cfg.rating.get x.kind)
    u.plant.create u.env ⟨.service, x.kind, x.priority, w, x.store, x.train, some f.port, some x.budget⟩ = some (e, q) →
    exec (.submitService f) s = .next (State.reply 3#8 f (taken { u with plant := q }
      (if w = x.setpoint then .ok else .clamped) fun _ =>
        [(.u2, ((q.ord e).id : Int)), (.u1, (storeCode (q.ord e).store : Int)), (.u4, (w : Int))])))
  ∧ (∀ (f : Frame) (s : State) (vs : List Int),
    s.accepts 3#8 f → isPlant f.port = true → readFields [.u1, .u4, .u1, .u1, .u1, .u2] f.payload = some vs →
    (readSubmission vs = none → exec (.submitService f) s = .next (s.repliesOnly 3#8 f .badValue []))
    ∧ ∀ x, readSubmission vs = some x →
      ((∃ t, x.train = some t ∧ (trainKind t ≠ x.kind ∨ ∃ st, x.store = some st ∧ s.store.cfg.maskHas t st = false)) →
        exec (.submitService f) s = .next (s.repliesOnly 3#8 f .badValue []))
      ∧ ((∀ t, x.train = some t → trainKind t = x.kind ∧ ∀ st, x.store = some st → s.store.cfg.maskHas t st = true) →
        ((∃ t, x.train = some t ∧ (s.store.cfg.owner.get t).port? ≠ some f.port)
            ∨ (x.train = none ∧ ∀ t, trainKind t = x.kind → (s.store.cfg.owner.get t).port? ≠ some f.port) →
          exec (.submitService f) s = .next (s.repliesOnly 3#8 f .notOwner []))
        ∧ ((∃ t, x.train = some t ∧ (s.store.cfg.owner.get t).port? = some f.port)
            ∨ (x.train = none ∧ ∃ t, trainKind t = x.kind ∧ (s.store.cfg.owner.get t).port? = some f.port) →
          (s.prot.mode = .setup ∨ s.prot.mode = .trip ∨ s.env.inhibited x.kind = true →
            exec (.submitService f) s = .next (s.repliesOnly 3#8 f .mode []))
          ∧ (s.prot.mode = .normal ∨ s.prot.mode = .hold → s.env.inhibited x.kind = false →
            (s.received f.port).plant.freeEntry = none →
            exec (.submitService f) s = .next (s.repliesOnly 3#8 f .tableFull [])))))
  ∧ ∀ kind setpoint priority store train budget : Nat,
    readSubmission [(kind : Int), (setpoint : Int), (priority : Int), (store : Int), (train : Int), (budget : Int)] =
      if kind ≤ 1 ∧ setpoint ≤ 1000000 ∧ priority ≤ 5 ∧ (store ≤ 2 ∨ store = 255) ∧ (train ≤ 7 ∨ train = 255)
          ∧ 60 ≤ budget ∧ budget ≤ 14400 then
        some ⟨if kind = 0 then .compress else .expand, setpoint, priority, [Store.s0, .s1, .s2][store]?,
          [Train.c0, .c1, .c2, .c3, .x0, .x1, .x2, .x3][train]?, budget⟩
      else none

/-- R91, R102: a new order: it takes the lowest FREE entry, else the RETIRED entry that retired first; it is READY at the
tail of its priority level; its id is the counter's, or the next that no other record holds; its creation is stamped (with
the counter as it stands before it moves on: log 21, DEDUCED). No other order, no train and no gate changes. -/
def Obligations.CreatingAnOrder : Prop :=
  ∀ (p : Plant) (env : Env) (n : NewOrder) (e : Entry) (q : Plant), p.create env n = some (e, q) →
    1 ≤ p.nextId → p.nextId ≤ 65535 →
    let o := q.ord e
    (((p.ord e).state = .free ∧ ∀ x, x < e → (p.ord x).state ≠ .free)
      ∨ ((∀ x, (p.ord x).state ≠ .free) ∧ (p.ord e).state = .retired
          ∧ ∀ x, (p.ord x).state = .retired → (p.ord e).retiredAt.getD 0 ≤ (p.ord x).retiredAt.getD 0))
    ∧ o.state = .ready ∧ o.origin = n.origin ∧ o.kind = n.kind ∧ o.priority = n.priority ∧ o.setpoint = n.setpoint
    ∧ (∀ st, n.store = some st → o.store = st) ∧ o.bound = n.bound ∧ o.owner = n.owner ∧ o.budget = n.budget
    ∧ o.created = p.seqNo ∧ o.cause = none ∧ o.train = none ∧ o.lastTrain = none ∧ o.bars = .all false
    ∧ 1 ≤ o.id ∧ o.id ≤ 65535 ∧ (∀ x, x ≠ e → (p.ord x).state ≠ .free → (p.ord x).id ≠ o.id)
    ∧ ((∀ x, x ≠ e → (p.ord x).state ≠ .free → (p.ord x).id ≠ p.nextId) → o.id = p.nextId)
    ∧ q.nextId = (if o.id = 65535 then 1 else o.id + 1) ∧ q.seqNo = p.seqNo + 1 ∧ q.due = true
    ∧ (∀ x, x ≠ e → q.ord x = p.ord x) ∧ q.trains = p.trains ∧ q.gates = p.gates ∧ q.causes = p.causes
    ∧ ∃ a b, p.ready = a ++ b ∧ q.ready = a ++ e :: b
        ∧ (∀ x ∈ a, o.priority ≤ (q.ord x).priority) ∧ ∀ x ∈ b.head?, (q.ord x).priority < o.priority

namespace Sys2Proof.Claims

/-- R102: the order stands ahead of the other in the ready list. -/
def ahead (q : Plant) (e x : Entry) : Prop := q.ready.idxOf e < q.ready.idxOf x

/-- R102, R122: where an order of one level stands in the ready list after an event that has returned `heads` and `tails`:
promoted GRID orders come first, then the orders returned to the head, those that stood there, those returned to the
tail, and the promoted BOOK and SERVICE orders. -/
def placeClass (p : Plant) (heads tails : List Entry) (e : Entry) : Nat :=
  if (p.ord e).state = .waiting then (if (p.ord e).origin = .grid then 0 else 4)
  else if e ∈ heads then 1 else if e ∈ tails then 3 else 2

/-- R102, R105, R122: an event has returned `heads`, in turn, to the heads of their levels and `tails`, in turn, to the
tails, and then made its promotions from the wait lists: later entries at a head stand first, at a tail last. -/
def readyPlaces (p q : Plant) (heads tails : List Entry) : Prop :=
  let level := fun e => (p.ord e).priority
  let rank := placeClass p heads tails
  (∀ e ∈ heads ++ tails, e ∈ q.ready)
  ∧ (∀ e ∈ q.ready, ∀ x ∈ q.ready, level e = level x → rank e < rank x → ahead q e x)
  ∧ (∀ e ∈ q.ready, ∀ x ∈ q.ready, level e = level x → rank e = 2 → rank x = 2 → ahead p e x → ahead q e x)
  ∧ heads.Pairwise (fun e x => level e = level x → ahead q x e)
  ∧ tails.Pairwise (fun e x => level e = level x → ahead q e x)
  ∧ ∀ g, (p.gate g).wait.Pairwise fun e x => e ∈ q.ready → x ∈ q.ready → level e = level x → rank e = rank x →
      if rank e = 0 then ahead q x e else ahead q e x

/-- R105, R125: promotions are made gate by gate: S0 draw, S0 fill, S1 draw, S1 fill, S2 draw, S2 fill. -/
def gateByGate (p q : Plant) : Prop :=
  let turn := fun e => [(Store.s0, Kind.expand), (.s0, .compress), (.s1, .expand), (.s1, .compress), (.s2, .expand),
    (.s2, .compress)].idxOf (p.ord e).gate
  ∀ e ∈ q.ready, ∀ x ∈ q.ready, (p.ord e).state = .waiting → (p.ord x).state = .waiting →
    (p.ord e).priority = (p.ord x).priority → turn e < turn x →
    ((p.ord e).origin = .grid → (p.ord x).origin = .grid → ahead q x e)
    ∧ ((p.ord e).origin ≠ .grid → (p.ord x).origin ≠ .grid → ahead q e x)

/-- R120, R122: each OPEN gate has promoted as many orders as it had permits freed, from the head of its wait list. -/
def promotedFreed (p q : Plant) : Prop :=
  ∀ g, let n := if (p.gate g).isOpen = true then (p.gate g).holders.length - (q.gate g).holders.length else 0
    (q.gate g).isOpen = (p.gate g).isOpen ∧ (q.gate g).wait = (p.gate g).wait.drop n
    ∧ ∀ e ∈ (p.gate g).wait.take n, q.ord e = { p.ord e with state := .ready, train := none, stagedAt := none }

/-- R105: what an event that returns orders leaves of the ready list and the wait lists. -/
def returned (p q : Plant) (heads tails : List Entry) : Prop :=
  promotedFreed p q ∧ (p.ranked → readyPlaces p q heads tails ∧ gateByGate p q)

/-- R140, R142: a train that has lost its current order goes to STOPPING, with STOP posted and the stop window loaded. -/
def sentToStop (cfg : Cfg) (t : Train) (r : TrainRec) : TrainRec :=
  { r with
    state := .stopping, command := .stop, fresh := false, window := some (cfg.stopWindow.get (trainKind t))
    inhibit := none, feedback := none, fault := none, current := none }

/-- R92, R120, R122: one order has retired alone, in whatever condition it stood: its record (stamped with the counter as it
stands, log 21), its place in a list, its train
and its permit are given up, an OPEN gate whose permit is freed promotes the head of its wait list, and no other order,
train or gate changes. -/
def retiredAlone (p q : Plant) (cfg : Cfg) (e : Entry) (c : RetireCause) : Prop :=
  let g := (p.ord e).gate
  let promotes := fun x => (p.ord e).state = .current ∧ (p.gate g).isOpen = true ∧ (p.gate g).wait.head? = some x
  q.ord e = { p.ord e with state := .retired, cause := some c, retiredAt := some p.seqNo }
  ∧ (∀ x, x ≠ e → (promotes x → q.ord x = { p.ord x with state := .ready, train := none, stagedAt := none })
      ∧ (¬ promotes x → q.ord x = p.ord x))
  ∧ (∀ t, q.train t =
      if (p.train t).current = some e then sentToStop cfg t (p.train t)
      else if (p.train t).staged = some e then { p.train t with staged := none } else p.train t)
  ∧ (∀ x, (q.gate x).holders = (p.gate x).holders.filter (· != e))
  ∧ ((p.ord e).state ≠ .waiting → promotedFreed p q)
  ∧ ((p.ord e).state = .waiting → ∀ x, q.gate x = { p.gate x with wait := (p.gate x).wait.filter (· != e) })
  ∧ (p.ranked → readyPlaces p q [] []) ∧ e ∉ q.ready
  ∧ q.causes = p.causes ∧ q.heldBook = p.heldBook ∧ q.heldGrid = p.heldGrid ∧ q.due = true ∧ q.linked

end Sys2Proof.Claims

/-- R92, R89, R120: one order retires, in any condition: its record says RETIRED with the cause and the stamp (the
counter before it moves on: log 21, DEDUCED) and keeps what it was made of; it has left every list; a train that had it
CURRENT while STARTING or RUNNING goes to STOPPING, with STOP posted and the stop window loaded; no other order and no
other train changes. -/
def Obligations.RetiringAnOrder : Prop :=
  ∀ (p : Plant) (cfg : Cfg) (e : Entry) (c : RetireCause), p.linked →
    let q := p.retireOne cfg e c
    (q.ord e).state = .retired ∧ (q.ord e).cause = some c ∧ (q.ord e).retiredAt = some p.seqNo
    ∧ (p.ord e).sameOrder (q.ord e) ∧ (q.ord e).lastTrain = (p.ord e).lastTrain ∧ q.seqNo = p.seqNo + 1
    ∧ (∀ x, x ≠ e → q.ord x = p.ord x)
    ∧ e ∉ q.ready ∧ (∀ g, e ∉ (q.gate g).wait ∧ e ∉ (q.gate g).holders)
    ∧ (∀ t, (q.train t).staged ≠ some e ∧ (q.train t).current ≠ some e)
    ∧ (∀ t, (p.train t).current = some e →
        (q.train t).state = .stopping ∧ (q.train t).command = .stop
        ∧ (q.train t).window = some (cfg.stopWindow.get (trainKind t)))
    ∧ (∀ t, (p.train t).current ≠ some e → (p.train t).staged ≠ some e → q.train t = p.train t)
    ∧ q.linked

/-- R101, R92: CANCEL_SERVICE by the order's owner link retires it WITHDRAWN; another link is refused NOT_OWNER; an id
that is no live SERVICE order's is refused BAD_VALUE. R92, R120: its train stops, its places in the lists and its permit
are given up, an OPEN gate whose permit is freed promotes the head of its wait list (R122), and nothing else changes
(the stamp is log 21, DEDUCED). R97: a retarget of the plant after the retirement follows when the short mark was set,
and otherwise none. -/
def Obligations.CancelRetiresTheOrder : Prop :=
  ∀ (f : Frame) (s : State) (id : Int), s.accepts 4#8 f → isPlant f.port = true →
    readFields [.u2] f.payload = some [id] →
    let u := s.received f.port
    (∀ e, u.plant.liveService id = some e → (u.plant.ord e).owner = some f.port →
      ∃ p, exec (.cancelService f) s = .next (State.reply 4#8 f (taken
          { u with plant := if u.plant.short = true then p.retarget u.env else p } .ok fun _ => []))
        ∧ (u.plant.linked → Sys2Proof.Claims.retiredAlone u.plant p s.store.cfg e .withdrawn))
    ∧ (∀ e, u.plant.liveService id = some e → (u.plant.ord e).owner ≠ some f.port →
        exec (.cancelService f) s = .next (s.repliesOnly 4#8 f .notOwner []))
    ∧ ((∀ e, (u.plant.ord e).state.live = true → (u.plant.ord e).origin = .service → ((u.plant.ord e).id : Int) ≠ id) →
        exec (.cancelService f) s = .next (s.repliesOnly 4#8 f .badValue []))

/-- R19: SEED_INVENTORY in SETUP or HOLD: the account is replaced, each value brought into its range; the state is
SEEDED; the decoder's second, the accumulators and the window start afresh; RECON_FAULT is cleared under WELLHEAD and
RECON then raised; headroom is recomputed. R66, R67: a synchronised Sweep starts a cycle. R19: in another mode it is refused MODE. -/
def Obligations.SeedReplacesTheAccount : Prop :=
  ∀ (f : Frame) (s : State) (kg q0 q1 q2 : Int), s.accepts 7#8 f → isPlant f.port = true →
    readFields [.u4, .u4, .u4, .u4] f.payload = some [kg, q0, q1, q2] →
    let u := s.received f.port
    let cap := s.store.cfg.capacity
    let inv : Inventory := { u.inv with
      mass := min kg.toNat 40000000
      heat := ⟨min q0.toNat cap.s0, min q1.toNat cap.s1, min q2.toNat cap.s2⟩
      gramRem := 0, seeded := true, netCount := 0, acc := .all (.all 0), sumWellhead := 0, sumTrains := 0, throughput := 0
      windowSeconds := 0, passStreak := 0, reconFault := u.inv.source == .trainSum }
    ((s.prot.mode = .setup ∨ s.prot.mode = .hold) →
      exec (.seedInventory f) s = .next (State.reply 7#8 f (taken { u with
        inv := inv
        head := u.head.recompute u.store.cfg inv u.prot.isolated
        plant := if u.inv.reconFault = true ∧ u.inv.source = .wellhead then u.plant.raiseOn [.mk, .pa, .pb] .recon
          else u.plant
        sweep := if u.tb.synced then { u.sweep with running := true, base := u.tb.current, pointer := 0, carried := none }
          else u.sweep }
        (if 40000000 < kg ∨ (cap.s0 : Int) < q0 ∨ (cap.s1 : Int) < q1 ∨ (cap.s2 : Int) < q2 then .clamped else .ok)
        fun _ => [])))
    ∧ (s.prot.mode = .normal ∨ s.prot.mode = .trip →
        exec (.seedInventory f) s = .next (s.repliesOnly 7#8 f .mode []))

/-- R141: CLEAR_TRAIN: the refusals in order, and the train out of FAULT: IDLE with its restart inhibit loaded when it
last reported STOPPED and its feedback is inactive (an inhibit of 0 s runs out as it is loaded, a dispatch event),
else STOPPING with its stop window loaded. Nothing else changes. R145: HANDOVER: the refusals in order; taken for a
LOST train of the other link, the requesting link becomes its owner in the working configuration, every live SERVICE
order bound to it by the former owner retires WITHDRAWN, and the train stays LOST; R97: a retarget of the plant after
the retirements follows when there are any and the short mark was set. The answer's record is the train's POLL entry,
Table 10-8 (log 14), and the answers show the train as the step's passes leave it (log 34, DESIGN CHOICE). -/
def Obligations.ClearTrainAndHandover : Prop :=
  (∀ (f : Frame) (s : State) (tr : Int), s.accepts 11#8 f → isPlant f.port = true →
    readFields [.u1] f.payload = some [tr] →
    let u := s.received f.port
    (trainOf? tr = none → exec (.clearTrain f) s = .next (s.repliesOnly 11#8 f .badValue []))
    ∧ ∀ t, trainOf? tr = some t →
      ((s.store.cfg.owner.get t).port? ≠ some f.port →
        exec (.clearTrain f) s = .next (s.repliesOnly 11#8 f .notOwner []))
      ∧ ((s.store.cfg.owner.get t).port? = some f.port → (u.plant.train t).state ≠ .fault →
        exec (.clearTrain f) s = .next (s.repliesOnly 11#8 f .mode []))
      ∧ ((s.store.cfg.owner.get t).port? = some f.port → (u.plant.train t).state = .fault →
        (u.plant.train t).staged = none →
        let inhibit := s.store.cfg.restartInhibit.get (trainKind t)
        let idle := (u.plant.train t).reported = some .stopped ∧ (s.prot.lines.feedback.get t).active = false
        let x : TrainRec := { u.plant.train t with
          state := if idle then .idle else .stopping
          command := if idle then .none else .stop
          fresh := false, feedback := none, fault := none
          window := if idle then none else some (s.store.cfg.stopWindow.get (trainKind t))
          inhibit := if idle ∧ inhibit ≠ 0 then some inhibit else none }
        exec (.clearTrain f) s = .next (State.reply 11#8 f (taken
          { u with plant := { u.plant with
              trains := u.plant.trains.set t x
              due := u.plant.due || decide (idle ∧ inhibit = 0) } } .ok
          fun w => [(.u1, Sys2Proof.Claims.stateCode (w.plant.train t).state)]))))
  ∧ (∀ (f : Frame) (s : State) (tr : Int), s.accepts 13#8 f → isPlant f.port = true →
    readFields [.u1] f.payload = some [tr] →
    let u := s.received f.port
    (trainOf? tr = none → exec (.handover f) s = .next (s.repliesOnly 13#8 f .badValue []))
    ∧ ∀ t, trainOf? tr = some t →
      (s.store.cfg.owner.get t = ownerOfPort f.port → exec (.handover f) s = .next (s.repliesOnly 13#8 f .badValue []))
      ∧ (s.store.cfg.owner.get t = .nobody → exec (.handover f) s = .next (s.repliesOnly 13#8 f .notOwner []))
      ∧ (s.store.cfg.owner.get t ≠ ownerOfPort f.port → s.store.cfg.owner.get t ≠ .nobody →
          (u.plant.train t).state ≠ .lost → exec (.handover f) s = .next (s.repliesOnly 13#8 f .mode []))
      ∧ (s.store.cfg.owner.get t ≠ ownerOfPort f.port → s.store.cfg.owner.get t ≠ .nobody →
          (u.plant.train t).state = .lost →
        let cfg := { s.store.cfg with owner := s.store.cfg.owner.set t (ownerOfPort f.port) }
        let ends := fun e => (u.plant.ord e).state.live = true ∧ (u.plant.ord e).origin = .service
          ∧ (u.plant.ord e).bound = some t ∧ (u.plant.ord e).owner = (s.store.cfg.owner.get t).port?
        let w : State := { u with store := { u.store with cfg := cfg } }
        ∃ p, exec (.handover f) s = .next (State.reply 13#8 f (taken
            { w with plant := if u.plant.short = true ∧ ∃ e, ends e then p.retarget w.env else p } .ok
              fun w => Sys2Proof.Claims.trainEntry w t))
          ∧ (u.plant.linked → p.linked ∧
            (p.train t).state = .lost ∧ p.causes = u.plant.causes
            ∧ p.heldBook = u.plant.heldBook ∧ p.heldGrid = u.plant.heldGrid
            ∧ ∀ e, if ends e then
                (p.ord e).state = .retired ∧ (p.ord e).cause = some .withdrawn
              else (u.plant.ord e).sameOrder (p.ord e) ∧ ((p.ord e).state = .retired → (u.plant.ord e).state = .retired))))

/-! ## Modes, inhibits and windows -/

namespace Sys2Proof.Claims

/-- R171: a link's flags after causes have been raised on it. -/
def raised (x : Causes) (p : Port) (cs : List Cause) : Causes := cs.foldl (fun y c => y.raise (causeMask p c)) x

/-- What a mode change leaves of the blocks that hold neither orders nor causes (R156): all but the mode, the hold mask
and the Reserve Unit's wait, targets and withheld mark. -/
def modeFrame (s t : State) : Prop :=
  t.pending = s.pending ∧ t.supply = s.supply ∧ t.tb = s.tb ∧ t.inv = s.inv ∧ t.head = s.head ∧ t.book = s.book
    ∧ t.sweep = s.sweep ∧ t.ports = s.ports ∧ t.store = s.store ∧ t.pins = s.pins ∧ t.free = s.free
    ∧ t.prot.lines = s.prot.lines ∧ t.prot.timers = s.prot.timers ∧ t.prot.isolated = s.prot.isolated
    ∧ t.prot.chargeInhibit = s.prot.chargeInhibit ∧ t.prot.dischargeInhibit = s.prot.dischargeInhibit
    ∧ t.prot.latch = s.prot.latch ∧ t.res.a = s.res.a ∧ t.res.requested = s.res.requested ∧ t.res.wait = 0

end Sys2Proof.Claims

namespace Sys2Proof.Claims

/-- R84, R94, R95, R113: what re-forming the targets makes of a plant without a live order: the targets that the state calls
for are handed, and each origin has the orders its target calls for, all READY; no train and no gate changes. -/
def startsFresh (s t : State) : Prop :=
  t.targetsHanded ∧ t.plant.trains = s.plant.trains ∧ t.plant.gates = s.plant.gates
  ∧ (∀ e, (t.plant.ord e).state.live = true → (t.plant.ord e).state = .ready ∧ (t.plant.ord e).origin ≠ .service)
  ∧ (t.plant.liveOf .grid).length = ordersCalled s.store.cfg t.res.gridTarget
  ∧ (t.plant.liveOf .book).length = ordersCalled s.store.cfg t.res.bookTarget

end Sys2Proof.Claims

/-- R159, R156, R85: entry into HOLD from NORMAL. The hold mask is the configured hold pattern; a train with a current
order that is outside the mask goes to STOPPING and its order to READY, at the head of its level, the trains taken in
order (R105), before the freed permits promote (R120, R122); one inside keeps its order and is capped at its posted
setpoint; no order retires; HOLD is raised on PA and PB and MODE on MK and GR; an activation is withheld. R158, R162,
R156, R159: entry into HOLD from TRIP (RESET_TRIP) and from SETUP (START_PLANT with HRQ active), where no order is live:
the mask is copied and no cap is set, the same causes are raised, the targets are re-formed and their orders wait READY.
-/
def Obligations.EntryIntoHold : Prop :=
  (∀ s : State, s.prot.mode = .normal → s.plant.linked → s.targetsHanded →
    let t := s.enterHold
    t.prot.mode = .hold ∧ t.prot.holdMask = s.store.cfg.holdBit ∧ Sys2Proof.Claims.modeFrame s t
    ∧ (∀ x, (s.plant.train x).current = none → t.plant.train x = s.plant.train x)
    ∧ (∀ x e, (s.plant.train x).current = some e →
        if s.store.cfg.holdBit.get x then
          t.plant.train x = { s.plant.train x with cap := some (s.plant.train x).posted } ∧ t.plant.ord e = s.plant.ord e
        else (t.plant.train x).state = .stopping ∧ (t.plant.train x).command = .stop ∧ (t.plant.train x).current = none
          ∧ (t.plant.train x).window = some (s.store.cfg.stopWindow.get (trainKind x))
          ∧ (t.plant.train x).cap = (s.plant.train x).cap ∧ (t.plant.ord e).state = .ready)
    ∧ Sys2Proof.Claims.returned s.plant t.plant
        (([Train.c0, .c1, .c2, .c3, .x0, .x1, .x2, .x3].filter fun x => !s.store.cfg.holdBit.get x).filterMap fun x =>
          (s.plant.train x).current) []
    ∧ (∀ e, (s.plant.ord e).sameOrder (t.plant.ord e)
        ∧ ((t.plant.ord e).state = .retired ↔ (s.plant.ord e).state = .retired))
    ∧ t.res.withheld = (s.res.a != 0) ∧ t.res.bookTarget = s.res.bookTarget ∧ t.res.gridTarget = s.res.gridTarget
    ∧ t.causes .pa = Sys2Proof.Claims.raised (s.causes .pa) .pa [.hold]
    ∧ t.causes .pb = Sys2Proof.Claims.raised (s.causes .pb) .pb [.hold]
    ∧ t.causes .mk = Sys2Proof.Claims.raised (s.causes .mk) .mk [.mode]
    ∧ t.causes .gr = Sys2Proof.Claims.raised (s.causes .gr) .gr
        (if s.res.a ≠ 0 ∧ s.res.withheld = false then [.mode, .reserveShort] else [.mode]))
  ∧ (∀ s : State, s.prot.mode = .trip ∨ s.prot.mode = .setup → s.plant.linked → s.targetsHanded →
    (∀ e, (s.plant.ord e).state.live = false) →
    let t := s.enterHold
    t.prot.mode = .hold ∧ t.prot.holdMask = s.store.cfg.holdBit ∧ Sys2Proof.Claims.modeFrame s t
    ∧ Sys2Proof.Claims.startsFresh s t ∧ t.res.withheld = (s.res.a != 0)
    ∧ t.causes .pa = Sys2Proof.Claims.raised (s.causes .pa) .pa [.hold]
    ∧ t.causes .pb = Sys2Proof.Claims.raised (s.causes .pb) .pb [.hold]
    ∧ t.causes .mk = Sys2Proof.Claims.raised (s.causes .mk) .mk [.mode]
    ∧ t.causes .gr = Sys2Proof.Claims.raised (s.causes .gr) .gr
        (if s.res.a ≠ 0 ∧ s.res.withheld = false then [.mode, .reserveShort] else [.mode]))

/-- R161, R115, R92, R156, R85: entry into TRIP. Every live order retires TRIP, every STARTING or RUNNING train goes to
STOPPING with STOP posted, the targets handed become none, TRIP is raised on PA and PB and MODE on MK and GR; an
activation is withheld, RESERVE_SHORT being raised on GR when it was not before. -/
def Obligations.EntryIntoTrip : Prop :=
  ∀ s : State, s.plant.linked →
    let t := s.enterTrip
    t.prot.mode = .trip ∧ t.prot.holdMask = s.prot.holdMask ∧ Sys2Proof.Claims.modeFrame s t
    ∧ (∀ e, if (s.plant.ord e).state.live = true then
          (t.plant.ord e).state = .retired ∧ (t.plant.ord e).cause = some .trip ∧ (s.plant.ord e).sameOrder (t.plant.ord e)
        else t.plant.ord e = s.plant.ord e)
    ∧ (∀ x, if (s.plant.train x).state = .starting ∨ (s.plant.train x).state = .running then
          (t.plant.train x).state = .stopping ∧ (t.plant.train x).command = .stop ∧ (t.plant.train x).current = none
            ∧ (t.plant.train x).window = some (s.store.cfg.stopWindow.get (trainKind x))
        else t.plant.train x = { s.plant.train x with staged := none })
    ∧ t.plant.ready = [] ∧ (∀ g, (t.plant.gate g).wait = [] ∧ (t.plant.gate g).holders = [])
    ∧ t.res.bookTarget = none ∧ t.res.gridTarget = none ∧ t.res.withheld = (s.res.a != 0)
    ∧ t.causes .pa = Sys2Proof.Claims.raised (s.causes .pa) .pa [.trip]
    ∧ t.causes .pb = Sys2Proof.Claims.raised (s.causes .pb) .pb [.trip]
    ∧ t.causes .mk = Sys2Proof.Claims.raised (s.causes .mk) .mk [.mode]
    ∧ t.causes .gr = Sys2Proof.Claims.raised (s.causes .gr) .gr
        (if s.res.a ≠ 0 ∧ s.res.withheld = false then [.mode, .reserveShort] else [.mode])

/-- R158, R162: HOLD enters HOLD from NORMAL, is answered OK in HOLD with nothing changed, and is refused MODE in
SETUP and TRIP. RESET_TRIP enters HOLD from TRIP when EST and GOF are inactive, and is refused MODE otherwise. R160,
R114, R156: RESUME in HOLD with HRQ inactive: the hold caps of all trains are cleared, a train with a current order
has that order's setpoint posted, and NORMAL is entered, or TRIP when EST or GOF is active. Otherwise it is refused
MODE. R156, R106, R84, R85, R86: entry into NORMAL that stands (what the mode change hands on): MODE is raised on MK
and GR, the placement wait is 0, the withheld condition is judged, RESERVE_SHORT being raised on GR when it comes to
stand, and the entry is a dispatch event, whose pass ends the step. From HOLD the targets handed stand and no order,
list, gate or train changes; from SETUP, where no order is live, the targets are re-formed. -/
def Obligations.HoldResetTripAndResume : Prop :=
  (∀ (f : Frame) (s : State), f.payload = [] → isPlant f.port = true →
    let u := s.received f.port
    (s.accepts 8#8 f → exec (.hold f) s = .next
      (match s.prot.mode with
        | .normal => State.reply 8#8 f (taken u.enterHold .ok fun _ => [])
        | .hold => s.repliesOnly 8#8 f .ok []
        | .setup | .trip => s.repliesOnly 8#8 f .mode []))
    ∧ (s.accepts 10#8 f → exec (.resetTrip f) s = .next
      (if s.prot.mode = .trip ∧ (s.prot.lines.prot.est.active || s.prot.lines.prot.gof.active) = false then
        State.reply 10#8 f (taken u.enterHold .ok fun _ => [])
      else s.repliesOnly 10#8 f .mode [])))
  ∧ (∀ (f : Frame) (s : State), f.payload = [] → isPlant f.port = true → s.accepts 9#8 f →
    let u := s.received f.port
    (s.prot.mode = .hold → s.prot.lines.prot.hrq.active = false →
      ∃ w : State, w = { u with plant := { u.plant with trains := w.plant.trains } }
        ∧ (∀ x, w.plant.train x = { u.plant.train x with
            cap := none
            posted := match (u.plant.train x).current with
              | some e => (u.plant.ord e).setpoint
              | none => (u.plant.train x).posted })
        ∧ exec (.resume f) s = .next (State.reply 9#8 f (taken
            (if s.prot.lines.prot.est.active ∨ s.prot.lines.prot.gof.active then w.enterTrip
             else (w.setMode .normal).handMode) .ok fun _ => [])))
    ∧ (s.prot.mode ≠ .hold ∨ s.prot.lines.prot.hrq.active = true →
        exec (.resume f) s = .next (s.repliesOnly 9#8 f .mode [])))
  ∧ (∀ s : State, s.plant.linked → s.targetsHanded →
    s.prot.mode = .hold ∨ (s.prot.mode = .setup ∧ ∀ e, (s.plant.ord e).state.live = false) →
    let t := (s.setMode .normal).handMode
    t.prot = { s.prot with mode := .normal } ∧ Sys2Proof.Claims.modeFrame s t ∧ t.plant.due = true ∧ t.targetsHanded
    ∧ (t.res.withheld = true ↔ (0 < s.res.a ∧ s.prot.dischargeInhibit = true)
        ∨ (s.res.a < 0 ∧ s.prot.chargeInhibit = true))
    ∧ t.causes .mk = Sys2Proof.Claims.raised (s.causes .mk) .mk [.mode]
    ∧ t.causes .gr = Sys2Proof.Claims.raised (s.causes .gr) .gr
        (if t.res.withheld = true ∧ s.res.withheld = false then [.mode, .reserveShort] else [.mode])
    ∧ t.causes .pa = s.causes .pa ∧ t.causes .pb = s.causes .pb
    ∧ (s.prot.mode = .hold → t.res.bookTarget = s.res.bookTarget ∧ t.res.gridTarget = s.res.gridTarget
        ∧ t.plant = { s.plant with causes := t.plant.causes, due := true })
    ∧ (s.prot.mode = .setup → Sys2Proof.Claims.startsFresh s t))

/-- R181: START_PLANT: the refusals in order (MODE, CONFIG_INVALID, NOT_SEEDED); otherwise NORMAL is entered, or TRIP
when EST or GOF is active, or HOLD when HRQ is; the answer carries the mode (its byte is log 36). Table 11-2: the start checks pass exactly
when the configuration has been validated, the floor is below the ceiling, twice a kind's minimum load is at most its
rating, each store's floor is below its ceiling and that at most its capacity, no store mask is empty, and each kind
has a train with an owner. -/
def Obligations.StartPlantAndItsChecks : Prop :=
  (∀ (f : Frame) (s : State), f.payload = [] → isPlant f.port = true → s.accepts 18#8 f →
    let u := s.received f.port
    let l := s.prot.lines.prot
    exec (.startPlant f) s = .next
      (if s.prot.mode ≠ .setup then s.repliesOnly 18#8 f .mode []
       else if startCheck s.store.unvalidated s.store.cfg ≠ none then s.repliesOnly 18#8 f .configInvalid []
       else if s.inv.seeded = false then s.repliesOnly 18#8 f .notSeeded []
       else State.reply 18#8 f (taken
        (if l.est.active ∨ l.gof.active then u.enterTrip
         else if l.hrq.active then u.enterHold
         else (u.setMode .normal).handMode) .ok fun t => [(.u1, Sys2Proof.Claims.modeCode t.prot.mode)])))
  ∧ (∀ (unvalidated : Bool) (c : Cfg), startCheck unvalidated c = none ↔
    unvalidated = false ∧ c.mFloor < c.mCeil ∧ (∀ k, 2 * c.minLoad.get k ≤ c.rating.get k)
    ∧ (∀ s, c.floor.get s < c.ceil.get s ∧ c.ceil.get s ≤ c.capacity.get s)
    ∧ (∀ t, ∃ s, (c.storeMask.get t).get s = true) ∧ ∀ k, ∃ t, trainKind t = k ∧ c.owner.get t ≠ .nobody)

/-- R155: CLEAR_INHIBIT: a name not among the five is refused BAD_VALUE; while the line that sets the latch is active, MODE;
a latch already clear stays so and nothing changes; a set latch is cleared, and an inhibit's clearing re-forms the
targets while an isolation's opens the gates of its store that may open and recomputes headroom. (The byte that names
each latch, 0 to 4 in the order of R155's text, is log 36, DESIGN CHOICE.) -/
def Obligations.ClearInhibitRequest : Prop :=
  ∀ (f : Frame) (s : State) (n : Int), s.accepts 12#8 f → isPlant f.port = true →
    readFields [.u1] f.payload = some [n] →
    let u := s.received f.port
    let l := s.prot.lines.prot
    (n < 0 ∨ 4 < n → exec (.clearInhibit f) s = .next (s.repliesOnly 12#8 f .badValue []))
    ∧ (n = 0 → exec (.clearInhibit f) s = .next
        (if l.phi.active then s.repliesOnly 12#8 f .mode []
         else if s.prot.chargeInhibit = false then s.repliesOnly 12#8 f .ok []
         else State.reply 12#8 f (taken
          ({ u with prot := { u.prot with chargeInhibit := false } } : State).reserveReacts .ok fun _ => [])))
    ∧ (n = 1 → exec (.clearInhibit f) s = .next
        (if l.plo.active then s.repliesOnly 12#8 f .mode []
         else if s.prot.dischargeInhibit = false then s.repliesOnly 12#8 f .ok []
         else State.reply 12#8 f (taken
          ({ u with prot := { u.prot with dischargeInhibit := false } } : State).reserveReacts .ok fun _ => [])))
    ∧ ∀ st, n = 2 + storeCode st →
        exec (.clearInhibit f) s = .next
        (if (l.get (match st with | .s0 => .ts0 | .s1 => .ts1 | .s2 => .ts2)).active then s.repliesOnly 12#8 f .mode []
         else if s.prot.isolated.get st = false then s.repliesOnly 12#8 f .ok []
         else
          let v : State := { u with prot := { u.prot with isolated := u.prot.isolated.set st false } }
          State.reply 12#8 f (taken { v with
            plant := v.plant.unisolate v.env st
            head := v.head.recompute v.store.cfg v.inv v.prot.isolated } .ok fun _ => []))

/-- R182, R21, R65, R76, R88, R117, R130, R150, R165, R175: RESTART: refused MODE in NORMAL; in another mode the orders,
lists, holders, targets, activation, page, accumulators, repeat memories and cause flags are cleared, the trains go
OFFLINE but for their held power, last report and start count, the gates stay open or closed, a RUNNING Sweep starts a
cycle, and the Reserve Unit hands its targets; the account, the slots, the windows, the modes, latches and link timers,
the interval and the configuration stay. -/
def Obligations.WarmRestartRequest : Prop :=
  ∀ (f : Frame) (s : State), f.payload = [] → isPlant f.port = true → s.accepts 19#8 f →
    (s.prot.mode = .normal → exec (.restart f) s = .next (s.repliesOnly 19#8 f .mode []))
    ∧ (s.prot.mode ≠ .normal →
      let u := s.received f.port
      ∃ w : State, exec (.restart f) s = .next (State.reply 19#8 f (taken w.reform .ok fun _ => []))
        ∧ w = { u with
            inv := { u.inv with acc := .all (.all 0) }
            book := { u.book with page := none }
            res := ⟨0, 0, none, none, false, 0⟩
            sweep := if u.sweep.running then { u.sweep with base := u.tb.current, pointer := 0, carried := none }
              else { u.sweep with pointer := 0, carried := none }
            plant := w.plant
            ports := w.ports }
        ∧ (∀ e, w.plant.ord e = .empty) ∧ w.plant.ready = [] ∧ w.plant.heldBook = none ∧ w.plant.heldGrid = none
        ∧ w.plant.short = false ∧ w.plant.nextId = u.plant.nextId ∧ w.plant.seqNo = u.plant.seqNo
        ∧ (∀ t, w.plant.train t = { TrainRec.cold with
            power := (u.plant.train t).power, reported := (u.plant.train t).reported, starts := (u.plant.train t).starts })
        ∧ (∀ g, w.plant.gate g = ⟨(u.plant.gate g).isOpen, [], []⟩)
        ∧ (∀ p, w.causes p = ⟨0#16, (u.causes p).enables⟩)
        ∧ ∀ p, w.port p = { u.port p with memory := none })

/-! ## Configuration -/

namespace Sys2Proof.Claims

/-- Table 11-1: the number of indexes of an item and the range of its value; the values that are enumerated by their
places. -/
def itemRow (code : Nat) : Option (Nat × Nat × Nat) :=
  [(1, 0, 40000000), (1, 0, 40000000), (1, 20, 400), (1, 20, 600), (1, 0, 400), (1, 0, 400), (1, 1, 1000000),
   (1, 10, 600), (1, 0, 1000000), (1, 0, 1000), (1, 0, 50), (3, 0, 4000000000), (3, 0, 4000000000),
   (3, 0, 4000000000), (3, 0, 4000000000), (3, 1, 4), (3, 1, 4), (3, 0, 10000), (2, 1, 250000), (2, 0, 250000),
   (8, 0, 2), (8, 0, 7), (8, 0, 1), (2, 10, 1800), (2, 10, 1800), (2, 0, 3600), (1, 1, 60), (1, 0, 8), (4, 2, 255),
   (16, 0, 1), (16, 0, 2), (16, 0, 1), (2, 0, 63)][code - 1]?

end Sys2Proof.Claims

/-- R176, R177, Table 11-1: an item written with a value of its range reads back that value, and every other item reads
what it read; the items, their indexes and ranges are those of Table 11-1, spelled row by row. R177, R1, R131, R151,
R22: CONFIG_WRITE: refused MODE outside SETUP, then BAD_VALUE for an item, index or value out of range; taken, the item
holds the value and the answer carries it. A write of the value held changes nothing (log 17). A capacity clips its
store's heat, an owner NONE sends its train OFFLINE, a line's setting restarts the agreement count of its line or group,
a disabled line becomes INACTIVE, and headroom is recomputed; nothing else changes. R152: a feedback line that so
becomes INACTIVE does what its change does, and a protective one nothing (log 28). -/
def Obligations.ConfigurationWrites : Prop :=
  (∀ (c : Cfg) (code i v : Nat), itemExists code i = true → itemInRange code v = true →
    (c.write code i v).read code i = v
    ∧ ∀ code' i', itemExists code' i' = true → (code', i') ≠ (code, i) → (c.write code i v).read code' i' = c.read code' i')
  ∧ (∀ code i v : Nat,
    (itemExists code i = true ↔ 1 ≤ code ∧ ∃ row, Sys2Proof.Claims.itemRow code = some row ∧ i < row.1)
    ∧ ∀ row, 1 ≤ code → Sys2Proof.Claims.itemRow code = some row →
        (itemInRange code v = true ↔ row.2.1 ≤ v ∧ v ≤ row.2.2))
  ∧ (∀ (f : Frame) (s : State) (c j x : Int), s.accepts 15#8 f → isPlant f.port = true →
    readFields [.u1, .u1, .u4] f.payload = some [c, j, x] →
    let code := c.toNat
    let i := j.toNat
    let v := x.toNat
    let u := s.received f.port
    let held : Fields := [(.u1, (code : Int)), (.u1, (i : Int)), (.u4, (v : Int))]
    (s.prot.mode ≠ .setup → exec (.configWrite f) s = .next (s.repliesOnly 15#8 f .mode []))
    ∧ (s.prot.mode = .setup → itemExists code i = false ∨ itemInRange code v = false →
        exec (.configWrite f) s = .next (s.repliesOnly 15#8 f .badValue []))
    ∧ (s.prot.mode = .setup → itemExists code i = true → itemInRange code v = true → s.store.cfg.read code i = v →
        exec (.configWrite f) s = .next (s.repliesOnly 15#8 f .ok held))
    ∧ (s.prot.mode = .setup → itemExists code i = true → itemInRange code v = true → s.store.cfg.read code i ≠ v →
        let cfg := s.store.cfg.write code i v
        ∃ w : State, exec (.configWrite f) s = .next (State.reply 15#8 f (taken w .ok fun _ => held))
          ∧ w = { u with
              store := { u.store with cfg := cfg }
              inv := { u.inv with heat := w.inv.heat }
              head := u.head.recompute cfg w.inv u.prot.isolated
              prot := { u.prot with lines := w.prot.lines }
              plant := w.plant }
          ∧ (∀ st, w.inv.heat.get st =
              if code = 12 then min (u.inv.heat.get st) (cfg.capacity.get st) else u.inv.heat.get st)
          ∧ (∀ l, w.prot.lines.get l =
              if code = 32 ∧ l = lineAt i then ⟨(u.prot.lines.get l).active && v != 0, 0⟩
              else if (code = 30 ∨ code = 31) ∧ l = lineAt i then ⟨(u.prot.lines.get l).active, 0⟩
              else if code = 33 ∧ l ∈ groupLines i then ⟨(u.prot.lines.get l).active, 0⟩
              else u.prot.lines.get l)
          ∧ (code ≠ 21 → code ≠ 32 → w.plant = u.plant)
          ∧ (code = 32 → w.plant = match lineAt i with
              | .prot _ => u.plant
              | .feedback t => if v = 0 ∧ (u.prot.lines.feedback.get t).active = true then
                  (({ u with store := { u.store with cfg := cfg }, prot := w.prot } : State).lineChanged
                    (.feedback t)).plant
                else u.plant)
          ∧ (code = 21 → (u.plant.train (trainAt i)).staged = none →
              w.plant = if v = 2 ∧ (u.plant.train (trainAt i)).state ≠ .offline then
                u.plant.modTrain (trainAt i) fun r => { r with
                  state := .offline, command := .none, fresh := false, window := none, inhibit := none
                  feedback := none, fault := none }
                else u.plant)))

/-- R179: STORE_CONFIG in SETUP with no write in progress takes a copy of the working configuration and begins the write;
its answer waits. It is refused MODE otherwise. When the write ends, the image holds the copy with its CRC, the
configuration is validated, and the port that still waits is sent OK, with the link's cause flags as they stand then
(log 35, DESIGN CHOICE); with no write in progress nothing happens. -/
def Obligations.StoringTheConfiguration : Prop :=
  ∀ (f : Frame) (s : State),
    (f.payload = [] → isPlant f.port = true → s.accepts 17#8 f →
      let u := s.received f.port
      (s.prot.mode = .setup → s.store.write = none →
        exec (.storeConfig f) s = .next
          ((({ u with store := { u.store with write := some (u.store.cfg, f.port) } } : State).finish).setAnswer f.port
            (.awaited (frameKey 17#8 f))))
      ∧ (s.prot.mode ≠ .setup ∨ s.store.write ≠ none →
        exec (.storeConfig f) s = .next (s.repliesOnly 17#8 f .mode [])))
    ∧ (s.supply = .running → s.store.write = none → exec .imageWriteComplete s = .next s)
    ∧ ∀ copy p k, s.supply = .running → s.store.write = some (copy, p) → (s.port p).answer = .awaited k →
        ∃ t, exec .imageWriteComplete s = .next t
          ∧ t.store = { s.store with image := ⟨copy, copy.crc⟩, unvalidated := false, write := none }
          ∧ (t.port p).answer = .sending k ⟨k.seq, k.code, .ok, (t.causes p).flags, []⟩
          ∧ (∀ q, q ≠ p → t.port q = s.port q) ∧ t.tb = s.tb ∧ t.inv = s.inv ∧ t.book = s.book ∧ t.sweep = s.sweep
          ∧ t.res = s.res ∧ s.prot.same t.prot ∧ t.prot.timers = s.prot.timers
          ∧ s.plant.passFrom s.store.cfg { t.plant with placed := s.plant.placed }

/-- R180, Table 11-3: a cold reset loads the stored image when its CRC matches its items and the defaults otherwise,
a write then in progress having spoilt the image; every block takes its cold-reset values, whatever it held; the
waiting commands wait on (log 1, DESIGN CHOICE) and the ports' line idle is 'no' (logs 11 and 32, DESIGN CHOICE). R180,
R179, logs 19 and 20: while RSTN is low every line is released, and what arrives, the seconds and the samples have no
effect; with the supply lost, too, and an image write then in progress leaves an image whose CRC does not match; a part
without supply stays so when RSTN goes low (log 19). -/
def Obligations.ResetAndSupply : Prop :=
  (∀ s : State, ∃ t, exec .coldReset s = .next t
    ∧ t.pending = s.pending ∧ t.supply = .running ∧ t.tb = ⟨false, 0, 0⟩ ∧ t.inv = .cold
    ∧ t.book = .cold ∧ t.sweep = .cold ∧ t.res = .cold ∧ t.prot = .cold ∧ t.ports = .all .cold ∧ t.pins = .released
    ∧ t.plant = .cold t.store.cfg ∧ t.free = s.free ∧ t.head.d = 0 ∧ t.head.c = 0 ∧ t.head.pxCap = 0 ∧ t.head.pcCap = 0
    ∧ t.store.write = none
    ∧ (s.store.write = none → t.store.image = s.store.image)
    ∧ (∀ copy p, s.store.write = some (copy, p) → t.store.image.crc ≠ t.store.image.copy.crc)
    ∧ (if t.store.image.crc = t.store.image.copy.crc then
        t.store.cfg = t.store.image.copy ∧ t.store.unvalidated = false ∧ t.store.outcome = .image
      else t.store.cfg = .defaults ∧ t.store.unvalidated = true ∧ t.store.outcome = .defaults))
  ∧ (∀ s : State,
    (s.supply ≠ .off → exec .rstnLow s = .next
      { s with supply := .held, prot := { s.prot with latch := .all false }, pins := .released })
    ∧ (s.supply = .off → exec .rstnLow s = .next s)
    ∧ (∃ t, exec .lossOfPower s = .next t ∧ t.supply = .off ∧ t.pins = .released ∧ t.prot.latch = .all false
        ∧ t.store.write = none ∧ t.store.cfg = s.store.cfg
        ∧ (s.store.write = none → t.store.image = s.store.image)
        ∧ (s.store.write ≠ none → t.store.image.crc ≠ t.store.image.copy.crc))
    ∧ (s.supply ≠ .running → ∀ i, i ≠ .coldReset → i ≠ .lossOfPower → i ≠ .rstnLow → exec i s = .next s))

/-! ## Time, the book and the Sweep -/

/-- R41, R42, log 15: SYNC_TIME. The first one sets the interval and the second, with BAD_VALUE for an interval above
4,000,000,000 or a second above 899; then its slot is activated, its holding taken and a cycle begun when SEEDED. A later
one trims the second by at most 10 s within the current interval, and is refused TIME_STEP otherwise; its fields and
its answer are the model's choice (log 15, DEDUCED: those of the first). -/
def Obligations.SyncTimeRequest : Prop :=
  ∀ (f : Frame) (s : State) (n sec : Int), s.accepts 32#8 f → f.port = .mk →
    readFields [.u4, .u2] f.payload = some [n, sec] →
    let u := s.received f.port
    let clock : State → Fields := fun t => [(.u4, (t.tb.current : Int)), (.u2, (t.tb.second : Int))]
    (s.tb.synced = false → n ≤ 4000000000 → sec ≤ 899 →
      let v := ({ u with tb := ⟨true, n.toNat, sec.toNat⟩ } : State)
      exec (.syncTime f) s = .next (State.reply 32#8 f (taken
        ((v.activate n.toNat).takeHolding.sweepBegin) .ok clock)))
    ∧ (899 < sec ∨ (s.tb.synced = false ∧ 4000000000 < n) →
      exec (.syncTime f) s = .next (s.repliesOnly 32#8 f .badValue []))
    ∧ (s.tb.synced = true → sec ≤ 899 → n = s.tb.current → (sec - s.tb.second).natAbs ≤ 10 →
      exec (.syncTime f) s = .next (State.reply 32#8 f (taken
        { u with tb := ⟨true, s.tb.current, sec.toNat⟩ } .ok clock)))
    ∧ (s.tb.synced = true → sec ≤ 899 → n ≠ s.tb.current ∨ 10 < (sec - s.tb.second).natAbs →
      exec (.syncTime f) s = .next (s.repliesOnly 32#8 f .timeStep []))

namespace Sys2Proof.Claims

/-- The lowest-numbered of four windows that enables, matches and forbids. -/
def blocking (b : Book) (n : Nat) (v : Vals) : Nat :=
  if b.windows[0].blocks n v then 0 else if b.windows[1].blocks n v then 1 else if b.windows[2].blocks n v then 2 else 3

/-- Table 3-4: a change of interval `n` to `v`, check by check. `ranges` is check 2; `limited` is false for WITHDRAW,
which is not held to the revision limit; `prior` is what an ADJUST carries once check 1 has passed. -/
def changeTo (s : State) (code : Byte) (f : Frame) (n : Nat) (v : Vals) (ranges limited : Bool) (prior : Fields)
    (ok : State → Fields) : State :=
  let u := s.received f.port
  if s.tb.synced = false then s.repliesOnly code f .notSynced []
  else if ranges = false ∨ s.tb.current + 191 < n then s.repliesOnly code f .badValue prior
  else if n ≤ s.tb.current + s.store.cfg.lead then s.repliesOnly code f .tooLate prior
  else if s.book.page.any fun g => n / 96 == g.day then s.repliesOnly code f .pageOpen prior
  else if v = s.book.vals n then State.reply code f (taken (u.writeSlot n v) .ok fun t => prior ++ ok t)
  else if limited = true ∧ (s.book.slot n).state ≠ .free ∧ (s.book.slot n).tag = n ∧ 15 ≤ (s.book.slot n).revisions then
    s.repliesOnly code f .revisionLimit prior
  else if s.book.windows.toList.any fun w => w.blocks n v then
    State.reply code f (taken (u.hitWindows n v) .blackout fun _ => (.u1, (blocking s.book n v : Int)) :: prior)
  else match s.judge [(n, v)] with
    | some (m, r) => s.repliesOnly code f .infeasible ((.u4, (m : Int)) :: (.u1, r.code) :: prior)
    | none => State.reply code f (taken (u.writeSlot n v) .ok fun t => prior ++ ok t)

end Sys2Proof.Claims

/-- R49, R50, R51, Table 3-4: COMMIT, ADJUST and WITHDRAW take the checks in order, and write the slot when all pass; R48: a
request whose values equal those the interval holds skips the checks from REVISION_LIMIT on and is accepted.
A COMMIT's answer carries the slot's state and revisions, an ADJUST's the prior values and the revisions, a WITHDRAW's
the revisions (the order of an ADJUST refusal's fields is log 12). R44, R45, R46, R48: an accepted write of interval
`n`: the slot n mod 192 is tagged n and holds the values, OPEN with zeros and FIRM otherwise; a FIRM slot of that
interval whose values change counts a revision, up to 15, and a slot re-tagged starts at none, without risk or
effective values. No other slot, the page nor a window changes. -/
def Obligations.MarketChanges : Prop :=
  (∀ (f : Frame) (s : State), f.port = .mk →
    (∀ n e up dn, s.accepts 34#8 f → readFields [.u4, .s4, .u4, .u4] f.payload = some [n, e, up, dn] →
      exec (.commit f) s = .next (Sys2Proof.Claims.changeTo s 34#8 f n.toNat ⟨e, up, dn⟩
        (decide (e.natAbs ≤ 1000000 ∧ up ≤ 1000000 ∧ dn ≤ 1000000)) true []
        fun t => [(.u1, (t.book.slot n.toNat).state.code), (.u1, ((t.book.slot n.toNat).revisions : Int))]))
    ∧ (∀ n e up dn, s.accepts 35#8 f → readFields [.u4, .s4, .s4, .s4] f.payload = some [n, e, up, dn] →
      let old := s.book.vals n.toNat
      let v : Vals := ⟨old.e + e, old.up + up, old.dn + dn⟩
      exec (.adjust f) s = .next (Sys2Proof.Claims.changeTo s 35#8 f n.toNat v
        (decide (e.natAbs ≤ 2000000 ∧ up.natAbs ≤ 1000000 ∧ dn.natAbs ≤ 1000000 ∧ v.e.natAbs ≤ 1000000
          ∧ 0 ≤ v.up ∧ v.up ≤ 1000000 ∧ 0 ≤ v.dn ∧ v.dn ≤ 1000000)) true
        [(.s4, old.e), (.u4, old.up), (.u4, old.dn)] fun t => [(.u1, ((t.book.slot n.toNat).revisions : Int))]))
    ∧ ∀ n, s.accepts 36#8 f → readFields [.u4] f.payload = some [n] →
      exec (.withdraw f) s = .next (Sys2Proof.Claims.changeTo s 36#8 f n.toNat ⟨0, 0, 0⟩ true false []
        fun t => [(.u1, ((t.book.slot n.toNat).revisions : Int))]))
  ∧ (∀ (s : State) (n : Nat) (v : Vals),
    let x := s.book.slot n
    let t := s.writeSlot n v
    let y := t.book.slot n
    let mapped := x.state ≠ .free ∧ x.tag = n
    y.tag = n ∧ y.vals = v ∧ y.state = (if v = ⟨0, 0, 0⟩ then .opened else .firm)
    ∧ y.revisions = (if mapped then (if x.state = .firm ∧ x.vals ≠ v then min 15 (x.revisions + 1) else x.revisions) else 0)
    ∧ y.risk = (if mapped then x.risk else none) ∧ y.eff = (if mapped then x.eff else none)
    ∧ (∀ m, m % 192 ≠ n % 192 → t.book.slot m = s.book.slot m)
    ∧ t = { s with book := { s.book with slots := t.book.slots } })

/-- R57: OPEN_DAY: the refusals in order; taken, the page of the day is open with the book's values of its 96
intervals, and the answer carries the day and the offset of its first changeable interval. R58: STAGE: the refusals in
order; taken, one entry of the open page takes the values, with no judgement of the book. A blackout refusal sets the
hit flags. -/
def Obligations.OpeningAndStagingADay : Prop :=
  (∀ (f : Frame) (s : State) (d : Int), s.accepts 37#8 f → f.port = .mk → readFields [.u4] f.payload = some [d] →
    let u := s.received f.port
    let first := 96 * d.toNat
    let lead := s.tb.current + s.store.cfg.lead
    exec (.openDay f) s = .next
      (if s.tb.synced = false then s.repliesOnly 37#8 f .notSynced []
       else if s.book.page ≠ none then s.repliesOnly 37#8 f .pageOpen []
       else if first + 95 ≤ lead then s.repliesOnly 37#8 f .tooLate []
       else if s.tb.current + 191 < first + 95 then s.repliesOnly 37#8 f .badValue []
       else State.reply 37#8 f (taken
        { u with book := { u.book with page := some ⟨d.toNat, (List.range 96).map fun i => s.book.vals (first + i)⟩ } } .ok
        fun _ => [(.u4, d), (.u1, ((lead + 1 - first : Nat) : Int))])))
  ∧ (∀ (f : Frame) (s : State) (o e up dn : Int), s.accepts 38#8 f → f.port = .mk →
    readFields [.u1, .s4, .u4, .u4] f.payload = some [o, e, up, dn] →
    let u := s.received f.port
    let v : Vals := ⟨e, up, dn⟩
    (s.book.page = none → exec (.stage f) s = .next (s.repliesOnly 38#8 f .noPage []))
    ∧ ∀ g, s.book.page = some g →
      let n := 96 * g.day + o.toNat
      exec (.stage f) s = .next
        (if 95 < o ∨ 1000000 < e.natAbs ∨ 1000000 < up ∨ 1000000 < dn then s.repliesOnly 38#8 f .badValue []
         else if n ≤ s.tb.current + s.store.cfg.lead then s.repliesOnly 38#8 f .tooLate []
         else if s.book.windows.toList.any fun w => w.blocks n v then
          State.reply 38#8 f (taken (u.hitWindows n v) .blackout fun _ =>
            [(.u1, (Sys2Proof.Claims.blocking s.book n v : Int))])
         else
          let page : Page := { g with entries := g.entries.set o.toNat v }
          State.reply 38#8 f (taken { u with book := { u.book with page := some page } } .ok fun _ => [])))

/-- R59, R60: CLOSE_DAY (the coding of its choice byte is log 16). Without a page it is refused NO_PAGE. DISCARD drops the page. ACCEPT takes the entries that differ
from the book and are still changeable; the first at its revision limit refuses it REVISION_LIMIT with the interval, an
infeasible set INFEASIBLE with interval and reason, both with the page left open; otherwise they are written, the page
is dropped, and the answer counts what was skipped and what was written. -/
def Obligations.CloseDayRequests : Prop :=
  ∀ (f : Frame) (s : State), f.payload = [] → f.port = .mk →
    let fa : Frame := { f with payload := [0#8] }
    let fd : Frame := { f with payload := [1#8] }
    let u := s.received f.port
    (s.accepts 39#8 fd → s.book.page = none → exec (.closeDayDiscard f) s = .next (s.repliesOnly 39#8 fd .noPage []))
    ∧ (s.accepts 39#8 fd → s.book.page ≠ none → exec (.closeDayDiscard f) s = .next
        (State.reply 39#8 fd (taken { u with book := { u.book with page := none } } .ok fun _ => [])))
    ∧ (s.accepts 39#8 fa → s.book.page = none → exec (.closeDayAccept f) s = .next (s.repliesOnly 39#8 fa .noPage []))
    ∧ ∀ g, s.accepts 39#8 fa → s.book.page = some g →
      let entries := (List.range 96).map fun i => (96 * g.day + i, g.entries.getD i ⟨0, 0, 0⟩)
      let differing := entries.filter fun x => x.2 != s.book.vals x.1
      let changes := differing.filter fun x => decide (s.tb.current + s.store.cfg.lead < x.1)
      let full := changes.filter fun x => decide ((s.book.slot x.1).state ≠ .free ∧ (s.book.slot x.1).tag = x.1
        ∧ 15 ≤ (s.book.slot x.1).revisions)
      exec (.closeDayAccept f) s = .next
        (match full, s.judge changes with
          | x :: _, _ => s.repliesOnly 39#8 fa .revisionLimit [(.u4, (x.1 : Int))]
          | [], some (n, r) => s.repliesOnly 39#8 fa .infeasible [(.u4, (n : Int)), (.u1, r.code)]
          | [], none =>
            let w := changes.foldl (fun t x => t.writeSlot x.1 x.2) u
            State.reply 39#8 fa (taken { w with book := { w.book with page := none } } .ok fun _ =>
              [(.u1, ((differing.length - changes.length : Nat) : Int)), (.u1, (changes.length : Int))]))

/-- R54: SET_WINDOW: window 255 reads; another window above 3, a width above 7, a forbidden set above 15 or an enable
above 1 (log 13) is refused BAD_VALUE; otherwise the window's fields are replaced, its hit flag clear, and no other
window changes. The answer carries the four windows, spelled field by field (logs 12, 13). R55: the hit flags of exactly the windows that block the values
are set, and WINDOW_HIT is raised on PA and PB when one of them was clear; nothing else changes. R53: a window of
width w covers exactly the 2^w intervals that are equal to its base above the low w bits, while enabled. -/
def Obligations.BlackoutWindows : Prop :=
  (∀ (f : Frame) (s : State) (n base width set enable : Int), s.accepts 14#8 f → isPlant f.port = true →
    readFields [.u1, .u4, .u1, .u1, .u1] f.payload = some [n, base, width, set, enable] →
    let u := s.received f.port
    (n = 255 → exec (.setWindow f) s = .next (s.repliesOnly 14#8 f .ok (Sys2Proof.Claims.windowRecord s)))
    ∧ (n ≠ 255 → 3 < n ∨ 7 < width ∨ 15 < set ∨ 1 < enable →
        exec (.setWindow f) s = .next (s.repliesOnly 14#8 f .badValue []))
    ∧ ∀ i : Fin 4, n = i.val → width ≤ 7 → set ≤ 15 → enable ≤ 1 →
        let forbids := fun b : Nat => set.toNat.testBit b
        let w : Window := ⟨base.toNat, width.toNat, forbids 0, forbids 1, forbids 2, forbids 3, enable == 1, false⟩
        exec (.setWindow f) s = .next (State.reply 14#8 f (taken
          { u with book := { u.book with windows := u.book.windows.set i.val w } } .ok Sys2Proof.Claims.windowRecord)))
  ∧ (∀ (s : State) (n : Nat) (v : Vals),
    let t := s.hitWindows n v
    (∀ i : Fin 4, t.book.windows[i] = { s.book.windows[i] with
        hit := s.book.windows[i].hit || s.book.windows[i].blocks n v })
    ∧ t = { s with
        book := { s.book with windows := t.book.windows }
        plant := if ∃ i : Fin 4, s.book.windows[i].blocks n v = true ∧ s.book.windows[i].hit = false then
          s.plant.raiseOn [.pa, .pb] .windowHit else s.plant })
  ∧ (∀ (w : Window) (n : Nat), w.covers n = true ↔
    w.enabled = true ∧ w.base / 2 ^ w.width * 2 ^ w.width ≤ n ∧ n < (w.base / 2 ^ w.width + 1) * 2 ^ w.width)

namespace Sys2Proof.Claims

/-- R53: an enabled window that matches the interval forbids a quantity. -/
def forbidden (b : Book) (n : Nat) (what : Window → Bool) : Bool := b.windows.toList.any fun w => w.covers n && what w

/-- R29: the kilograms an energy moves, rounded up. -/
def kilograms (cfg : Cfg) (e : Int) : Int := if 0 < e then -(-(e * 1000) / cfg.yd) else -(e * 1000 / cfg.cc)

/-- R30, R31, R32, Table 2-4: the slot breaks the condition of a reason, from the carried state, with its power 4E. -/
def breaks (s : State) (c : Carried) (n : Nat) (v : Vals) (power : Int) (r : Reason) : Prop :=
  let cfg := s.store.cfg
  let extreme : Int → Prop := fun x => x = v.e + -(-v.up / 4) ∨ x = v.e - -(-v.dn / 4)
  match r with
  | .floor => ∃ x, extreme x ∧ 0 < x ∧ c.mass - kilograms cfg x < cfg.mFloor
  | .heatEmpty => ∃ x, extreme x ∧ 0 < x ∧ 0 < cfg.hd ∧ c.heat - kilograms cfg x * cfg.hd < c.fTot
  | .ceiling => ∃ x, extreme x ∧ x < 0 ∧ (cfg.mCeil : Int) < c.mass + kilograms cfg x
  | .heatFull => ∃ x, extreme x ∧ x < 0 ∧ 0 < cfg.hc ∧ (c.kTot : Int) < c.heat + kilograms cfg x * cfg.hc
  | .powerUp => (s.head.pxCap : Int) < max 0 (power + v.up)
  | .powerDown => (s.head.pcCap : Int) < max 0 (v.dn - power)
  | .blackout => (0 < v.e ∧ forbidden s.book n (·.noDischarge) = true) ∨ (v.e < 0 ∧ forbidden s.book n (·.noCharge) = true)
      ∨ (0 < v.up ∧ forbidden s.book n (·.noUp) = true) ∨ (0 < v.dn ∧ forbidden s.book n (·.noDown) = true)

/-- R35: the values of the `k`-th slot of a projection; `vals` gives the book's. -/
def slotVals (s : State) (vals : Nat → Vals) : Nat → Vals
  | 0 => s.activeVals
  | k + 1 => vals (s.tb.current + (k + 1))

/-- R34, R35: the carried state of the `k`-th slot of a projection. -/
def carriedAt (s : State) (vals : Nat → Vals) : Nat → Carried
  | 0 => s.startCarried
  | k + 1 => (carriedAt s vals k).after s.store.cfg (slotVals s vals k).e

end Sys2Proof.Claims

/-- R38: the effective values: E_eff is E clamped into [-C, D], or 0 when a matching window forbids its direction;
each reserve is the least of the committed one, of four times the headroom that E_eff leaves and of the power it
leaves, not below 0, and 0 under a matching window that forbids it. R39: E_eff is 0 or has E's sign and is no larger,
the reserves lie between 0 and the committed ones, and the curtailment is what was cut. R23 to R25, R3: the
headroom figures. While UNSEEDED both are 0; otherwise each is the smaller of the air and the heat figure, derated
while RECON_FAULT is set and saturated at 16,777,215 kWh; without a heat factor there is no heat limit; an ISOLATED
store does not count. R29 to R33, Table 2-4: a slot step passes when no condition breaks, and fails with
the first reason in the table's order whose condition breaks; energy moves mass rounded up, and heat with it. R34: the
state carried on: the nominal energy applied, then the standing loss of heat above 0, then each value raised to its
lower bound and lowered to its upper. R28, R35: a projection starts from M and the pool of the stores not ISOLATED,
with their floors and ceilings and the largest of their loss rates, and takes 192 steps from the active slot on, whose
energy is what remains of E_eff, rounded away from zero, and whose power is four times E_eff (its windows judged on what
remains: log 30, DEDUCED). -/
def Obligations.HeadroomEffectiveValuesAndSlotSteps : Prop :=
  (∀ (s : State) (n : Nat) (v : Vals), 0 ≤ v.up → 0 ≤ v.dn →
    let f := s.effective n v
    let e := min (max v.e (-(s.head.c : Int))) s.head.d
    (f.e = if (0 < e ∧ Sys2Proof.Claims.forbidden s.book n (·.noDischarge) = true)
        ∨ (e < 0 ∧ Sys2Proof.Claims.forbidden s.book n (·.noCharge) = true) then 0 else e)
    ∧ (f.up = if Sys2Proof.Claims.forbidden s.book n (·.noUp) then 0
        else max 0 (min v.up (min (4 * (s.head.d - max 0 f.e)) (s.head.pxCap - max 0 (4 * f.e)))))
    ∧ (f.dn = if Sys2Proof.Claims.forbidden s.book n (·.noDown) then 0
        else max 0 (min v.dn (min (4 * (s.head.c - max 0 (-f.e))) (s.head.pcCap - max 0 (-4 * f.e)))))
    ∧ (f.e = 0 ∨ (0 < f.e ∧ f.e ≤ v.e) ∨ (f.e < 0 ∧ v.e ≤ f.e))
    ∧ 0 ≤ f.up ∧ f.up ≤ v.up ∧ 0 ≤ f.dn ∧ f.dn ≤ v.dn
    ∧ f.curtailment = v.e - f.e ∧ f.deliveredNet = 0 ∧ f.activated = 0)
  ∧ (∀ s : State,
    let c := s.store.cfg
    let draw := storeList.map fun st => if s.prot.isolated.get st then 0 else s.inv.heat.get st - c.floor.get st
    let room := storeList.map fun st => if s.prot.isolated.get st then 0 else c.ceil.get st - s.inv.heat.get st
    let airD := (s.inv.mass - c.mFloor) * c.yd / 1000
    let airC := (c.mCeil - s.inv.mass) * c.cc / 1000
    let rawD := if c.hd = 0 then airD else min airD (draw.sum / c.hd * c.yd / 1000)
    let rawC := if c.hc = 0 then airC else min airC (room.sum / c.hc * c.cc / 1000)
    let derated := fun x => if s.inv.reconFault then x * (100 - c.derate) / 100 else x
    let h := s.recomputeHeadroom.head
    h.eAirD = airD ∧ h.eAirC = airC ∧ h.dRaw = rawD ∧ h.cRaw = rawC
    ∧ h.d = (if s.inv.seeded then min (derated rawD) 16777215 else 0)
    ∧ h.c = (if s.inv.seeded then min (derated rawC) 16777215 else 0)
    ∧ h.pxCap = s.head.pxCap ∧ h.pcCap = s.head.pcCap)
  ∧ (∀ (s : State) (c : Carried) (n : Nat) (v : Vals) (power : Int),
    0 < s.store.cfg.yd → 0 < s.store.cfg.cc → 0 ≤ v.up → 0 ≤ v.dn →
    let cfg := s.store.cfg
    let bad := Sys2Proof.Claims.breaks s c n v power
    let m := Sys2Proof.Claims.kilograms cfg v.e
    let heat := if 0 < v.e then c.heat - m * cfg.hd else c.heat + m * cfg.hc
    let kept := if 0 < heat then heat - heat * c.loss / 1000000 else heat
    (stepReason cfg s.head s.book c n v power = none ↔ ∀ r, ¬ bad r)
    ∧ (∀ r, stepReason cfg s.head s.book c n v power = some r ↔ bad r ∧ ∀ q, q.code < r.code → ¬ bad q)
    ∧ c.after cfg v.e = { c with
        mass := min (max (if 0 < v.e then c.mass - m else c.mass + m) cfg.mFloor) cfg.mCeil
        heat := min (max kept c.fTot) c.kTot })
  ∧ (∀ (s : State) (vals : Nat → Vals), s.tb.second ≤ 899 →
    let c := s.startCarried
    let cfg := s.store.cfg
    let pooled := fun f : Store → Nat => (storeList.map fun st => if s.prot.isolated.get st then 0 else f st).sum
    let left : Int := s.active.e * (900 - s.tb.second)
    c.mass = s.inv.mass ∧ c.heat = pooled s.inv.heat.get ∧ c.fTot = pooled cfg.floor.get ∧ c.kTot = pooled cfg.ceil.get
    ∧ (∀ st, c.pool.get st = !s.prot.isolated.get st)
    ∧ (∀ st, s.prot.isolated.get st = false → cfg.lossPpm.get st ≤ c.loss)
    ∧ (c.loss = 0 ∨ ∃ st, s.prot.isolated.get st = false ∧ cfg.lossPpm.get st = c.loss)
    ∧ s.activeVals = ⟨if 0 ≤ left then -(-left / 900) else left / 900, s.active.up, s.active.dn⟩
    ∧ (s.project vals).length = 192
    ∧ ∀ k, k < 192 →
        let v := Sys2Proof.Claims.slotVals s vals k
        (s.project vals)[k]? = some (s.tb.current + k, stepReason cfg s.head s.book (Sys2Proof.Claims.carriedAt s vals k)
          (s.tb.current + k) v (if k = 0 then 4 * s.active.e else 4 * v.e)))

namespace Sys2Proof.Claims

/-- R36: a change of a slot's values that has reduced it. -/
def hasReduced (old new : Vals) : Prop :=
  (new.e = 0 ∨ (0 < new.e ∧ 0 < old.e ∧ new.e ≤ old.e) ∨ (new.e < 0 ∧ old.e < 0 ∧ old.e ≤ new.e))
    ∧ new.up ≤ old.up ∧ new.dn ≤ old.dn

/-- R36, R37: the `k`-th slot of the projections, from the earliest changed slot on, breaks a condition, with its reason in
the projection of the book with the changes. -/
def offendsAt (s : State) (changes : List (Nat × Vals)) (k : Nat) (r : Reason) : Prop :=
  let n := s.tb.current + k
  (∃ x ∈ changes, x.1 ≤ n) ∧ (s.project (withChanges s.book changes))[k]? = some (n, some r)
    ∧ ((s.project s.book.vals)[k]? = some (n, none)
      ∨ ((∃ x ∈ changes, x.1 = n) ∧ ¬ hasReduced (s.book.vals n) (withChanges s.book changes n)))

end Sys2Proof.Claims

/-- R36, R37: a change is accepted exactly when no slot, from the earliest changed one on, fails that did not fail without
it, and no changed slot fails that has not been reduced; a refusal names the first slot that breaks this, and why. -/
def Obligations.AcceptanceRule : Prop :=
  ∀ (s : State) (changes : List (Nat × Vals)),
    (s.judge changes = none ↔ ∀ k r, ¬ Sys2Proof.Claims.offendsAt s changes k r)
    ∧ ∀ n r, s.judge changes = some (n, r) →
        ∃ k, k < 192 ∧ n = s.tb.current + k ∧ Sys2Proof.Claims.offendsAt s changes k r
          ∧ ∀ j, j < k → ∀ q, ¬ Sys2Proof.Claims.offendsAt s changes j q

/-! ## The reserve -/

namespace Sys2Proof.Claims

/-- A target's power signed by its kind. -/
def signed : Target → Int
  | none => 0
  | some (.expand, w) => w
  | some (.compress, w) => -(w : Int)

end Sys2Proof.Claims

/-- R82, Table 5-2: the BOOK and GRID targets, each signed by its kind, add up to the book's power and the activation; with
the two of one sign each stands by itself, and with opposite signs the smaller is netted out of the larger, whose target
alone remains; the two are never above 0 in different kinds, and a target that is present is above 0. -/
def Obligations.NettingAddsUp : Prop :=
  ∀ b a : Int,
    Sys2Proof.Claims.signed (net b a).1 + Sys2Proof.Claims.signed (net b a).2 = b + a
    ∧ ((0 ≤ b ∧ 0 ≤ a) ∨ (b ≤ 0 ∧ a ≤ 0) →
        Sys2Proof.Claims.signed (net b a).1 = b ∧ Sys2Proof.Claims.signed (net b a).2 = a)
    ∧ ((0 < b ∧ a < 0) ∨ (b < 0 ∧ 0 < a) →
        if a.natAbs ≤ b.natAbs then (net b a).2 = none else (net b a).1 = none)
    ∧ (∀ k j v w, net b a = (some (k, v), some (j, w)) → k = j)
    ∧ (∀ k w, (net b a).1 = some (k, w) ∨ (net b a).2 = some (k, w) → 0 < w)

/-- R82, R83, R84, R94: the pair of targets as the state calls for it is the netting of four times E_eff and the activation,
cut by the mode and the inhibits; when it differs from the pair last handed it is handed to the Dispatch Unit, which
retargets, and otherwise nothing changes. -/
def Obligations.TargetsAreHandedWhenTheyChange : Prop :=
  ∀ s : State,
    let n := net (4 * s.active.e) s.res.a
    let pair := (Sys2Proof.Claims.cut s n.1, Sys2Proof.Claims.cut s n.2)
    s.targets = pair
    ∧ s.reform = if pair = (s.res.bookTarget, s.res.gridTarget) then s
      else { s with
        res := { s.res with bookTarget := pair.1, gridTarget := pair.2 }
        plant := ({ s.plant with heldBook := pair.1, heldGrid := pair.2 } : Plant).retarget s.env }

/-- R96: the setpoints of an origin's orders: together they make the target, or the number of orders times the rating when
that is less; none exceeds the rating; no two differ by more than 1 kW; and when twice the minimum load is at most the
rating, none is below the minimum load. -/
def Obligations.SetpointsMakeTheTarget : Prop :=
  ∀ (cfg : Cfg) (k : Kind) (w : Nat),
    let n := ordersCalled cfg (some (k, w))
    let rating := cfg.rating.get k
    0 < rating → 0 < n →
    ((List.range n).map (share cfg k w n)).sum = min w (n * rating)
    ∧ (∀ i, i < n → share cfg k w n i ≤ rating)
    ∧ (∀ i j, i < n → j < n → share cfg k w n i ≤ share cfg k w n j + 1)
    ∧ (2 * cfg.minLoad.get k ≤ rating → ∀ i, i < n → cfg.minLoad.get k ≤ share cfg k w n i)
    ∧ n ≤ 4 ∧ (w ≤ 4 * rating → w ≤ n * rating)

namespace Sys2Proof.Claims

/-- R95 step 2: the conditions in rank order. -/
def rankOf : OrderState → Nat
  | .current => 0
  | .staged => 1
  | .ready => 2
  | .waiting => 3
  | .free | .retired => 4

/-- R95 step 2: one live order ranks before another: CURRENT, STAGED, READY, WAITING; within one of these by time made
current, by time staged, by the ready list, by time created. -/
def ranksBefore (p : Plant) (e x : Entry) : Prop :=
  let o := p.ord e
  let y := p.ord x
  rankOf o.state < rankOf y.state ∨ (o.state = y.state ∧ match o.state with
    | .current => o.currentAt.getD 0 ≤ y.currentAt.getD 0
    | .staged => o.stagedAt.getD 0 ≤ y.stagedAt.getD 0
    | .ready => p.ready.idxOf e < p.ready.idxOf x
    | .waiting => o.created ≤ y.created
    | .free | .retired => True)

/-- R95, R96, R97: what a retarget makes of an origin's orders, from its effective target: the first orders of the ranking
kept, the rest retired RETARGET (or their entries used again), new ones READY behind, and the target shared out over
them in that order. -/
def sharedOut (env : Env) (o : Origin) (tgt : Target) (p q : Plant) : Prop :=
  ∃ kept new : List Entry, (kept ++ new).Nodup ∧ (∀ e, e ∈ kept ++ new ↔ e ∈ q.liveOf o)
    ∧ (∀ e ∈ kept, e ∈ p.liveOf o ∧ (∃ w, tgt = some ((p.ord e).kind, w))
        ∧ (p.ord e).id = (q.ord e).id ∧ (p.ord e).created = (q.ord e).created ∧ (p.ord e).store = (q.ord e).store
        ∧ (p.ord e).bars = (q.ord e).bars
        ∧ (((q.ord e).state = (p.ord e).state ∧ (q.ord e).train = (p.ord e).train)
          ∨ ((p.ord e).state = .waiting ∧ (q.ord e).state = .ready)))
    ∧ kept.Pairwise (ranksBefore p)
    ∧ (∀ e ∈ p.liveOf o, e ∉ kept →
        ((q.ord e).state = .retired ∧ (q.ord e).cause = some .retarget ∧ (q.ord e).id = (p.ord e).id)
          ∨ p.seqNo < (q.ord e).created)
    ∧ (∀ e ∈ p.liveOf o, e ∉ kept → (∃ w, tgt = some ((p.ord e).kind, w)) →
        kept.length = ordersCalled env.cfg tgt ∧ ∀ x ∈ kept, ranksBefore p x e)
    ∧ (∀ e ∈ new, (q.ord e).state = .ready ∧ p.seqNo ≤ (q.ord e).created)
    ∧ new.Pairwise (fun e x => (q.ord e).created < (q.ord x).created)
    ∧ (∀ (i : Nat) (e : Entry), (kept ++ new)[i]? = some e → ∀ k w, tgt = some (k, w) →
        (q.ord e).setpoint = share env.cfg k w (ordersCalled env.cfg tgt) i)
    ∧ ∀ e ∈ kept, ∀ t, (p.train t).current = some e →
        q.train t = if (q.ord e).setpoint = (p.ord e).setpoint then p.train t
          else { p.train t with posted := match (p.train t).cap with
            | none => (q.ord e).setpoint
            | some c => min (q.ord e).setpoint c }

end Sys2Proof.Claims

/-- R94, R95, R97: after a retarget the live orders of each origin are all of the kind of its effective target; they are as
many as it calls for, or fewer, with the short mark set and TABLE_FULL raised on PA and PB, and then every entry of the
table holds a live order; the live SERVICE orders are as they were. R95, R96, R114: the orders kept are the first of the
ranking, in their conditions (a waiting one may have been promoted) with their trains, the rest retire RETARGET, new
ones are READY behind them, and in that order each has its share of the target as its setpoint; where the setpoint of a
CURRENT one changes, its train's posted setpoint follows, no higher than a hold cap. -/
def Obligations.RetargetMeetsTheTargets : Prop :=
  (∀ (p : Plant) (env : Env), p.linked →
    let q := p.retarget env
    (∀ o held, (o = Origin.grid ∧ held = p.heldGrid) ∨ (o = Origin.book ∧ held = p.heldBook) →
      let tgt := env.effectiveTarget held
      (q.liveOf o).length ≤ ordersCalled env.cfg tgt
      ∧ (q.short = false → (q.liveOf o).length = ordersCalled env.cfg tgt)
      ∧ ∀ e ∈ q.liveOf o, ∃ w, tgt = some ((q.ord e).kind, w))
    ∧ (q.short = true → ∀ e, (q.ord e).state.live = true)
    ∧ (∀ e, (p.ord e).state.live = true → (p.ord e).origin = .service →
        (p.ord e).sameOrder (q.ord e) ∧ (q.ord e).state.live = true)
    ∧ q.heldBook = p.heldBook ∧ q.heldGrid = p.heldGrid ∧ q.linked
    ∧ (∀ x, q.causes.get x = if q.short = true ∧ isPlant x = true then
        Sys2Proof.Claims.raised (p.causes.get x) x [.tableFull] else p.causes.get x))
  ∧ (∀ (p : Plant) (env : Env), p.linked →
    Sys2Proof.Claims.sharedOut env .grid (env.effectiveTarget p.heldGrid) p (p.retarget env)
    ∧ Sys2Proof.Claims.sharedOut env .book (env.effectiveTarget p.heldBook) p (p.retarget env))

/-- R78, R82, R85: ACTIVATE: BAD_VALUE outside ±1,000,000, then NOT_SYNCED; taken, the activation is the value clamped
into the holding, ACT_CLAMPED being raised and CLAMPED answered when it was cut; the targets are re-formed and the
withheld condition judged. The answer carries the activation, the value asked for, the holding and the time. R85: the
withheld mark stands exactly while the activation is not 0 and the mode is not NORMAL or the inhibit of its kind is
latched; RESERVE_SHORT is raised on GR when it comes to stand, and also when it stands as an ACTIVATE is taken (judged on
the state that the ACTIVATE leaves: log 33). -/
def Obligations.ActivationAndWithholding : Prop :=
  (∀ (f : Frame) (s : State) (v : Int), s.accepts 48#8 f → f.port = .gr → readFields [.s4] f.payload = some [v] →
    let u := s.received f.port
    let a := max (-s.active.dn) (min v s.active.up)
    exec (.activate f) s = .next
      (if 1000000 < v.natAbs then s.repliesOnly 48#8 f .badValue []
       else if s.tb.synced = false then s.repliesOnly 48#8 f .notSynced []
       else
        let t : State := { u with
          res := { u.res with a := a, requested := v }
          plant := if a = v then u.plant else u.plant.raise .gr .actClamped }
        State.reply 48#8 f (taken (t.reform.judgeWithheld true) (if a = v then .ok else .clamped) fun w =>
          [(.s4, w.res.a), (.s4, w.res.requested), (.u4, w.active.up), (.u4, w.active.dn), (.u4, (w.tb.current : Int)),
           (.u2, (w.tb.second : Int))])))
  ∧ (∀ (s : State) (asked : Bool),
    let t := s.judgeWithheld asked
    (t.res.withheld = true ↔ s.res.a ≠ 0 ∧ (s.prot.mode ≠ .normal ∨ (0 < s.res.a ∧ s.prot.dischargeInhibit = true)
        ∨ (s.res.a < 0 ∧ s.prot.chargeInhibit = true)))
    ∧ t = { s with
        res := { s.res with withheld := t.res.withheld }
        plant := if t.res.withheld = true ∧ (asked = true ∨ s.res.withheld = false) then s.plant.raise .gr .reserveShort
          else s.plant })

/-! ## Cause flags -/

/-- R172: ACK_CAUSES: a word with a bit that has no cause on the link is refused BAD_VALUE; otherwise every flag named
is cleared, and WINDOW_HIT named on a plant link clears the hit flags of the four windows; the answer carries the
flags. R173: SET_CAUSE_ENABLE: a word with a bit that has no cause on the link is refused BAD_VALUE; otherwise the
enables become the word and every flag whose enable it clears is cleared; the answer carries enables and flags. R171:
a cause raised on a link sets its flag when its enable is set and not otherwise, leaves every other flag and every
other link, and raises nothing on a link that has no such cause. -/
def Obligations.CauseFlags : Prop :=
  (∀ (f : Frame) (s : State) (x : Int), s.accepts 64#8 f → readFields [.u2] f.payload = some [x] →
    let u := s.received f.port
    let w := BitVec.ofInt 16 x
    (w &&& ~~~causeBits f.port ≠ 0#16 → exec (.ackCauses f) s = .next (s.repliesOnly 64#8 f .badValue []))
    ∧ (w &&& ~~~causeBits f.port = 0#16 →
      ∃ v : State, exec (.ackCauses f) s = .next (State.reply 64#8 f (taken v .ok fun t =>
          [(.u2, ((t.causes f.port).flags.toNat : Int))]))
        ∧ v = { u with
            plant := { u.plant with causes := v.plant.causes }
            book := { u.book with windows := v.book.windows } }
        ∧ v.causes f.port = ⟨(u.causes f.port).flags &&& ~~~w, (u.causes f.port).enables⟩
        ∧ (∀ q, q ≠ f.port → v.causes q = u.causes q)
        ∧ ∀ i : Fin 4, v.book.windows[i] = { u.book.windows[i] with
            hit := u.book.windows[i].hit && !(isPlant f.port && w.getLsbD 8) }))
  ∧ (∀ (f : Frame) (s : State) (x : Int), s.accepts 65#8 f → readFields [.u2] f.payload = some [x] →
    let u := s.received f.port
    let w := BitVec.ofInt 16 x
    (w &&& ~~~causeBits f.port ≠ 0#16 → exec (.setCauseEnable f) s = .next (s.repliesOnly 65#8 f .badValue []))
    ∧ (w &&& ~~~causeBits f.port = 0#16 →
      exec (.setCauseEnable f) s = .next (State.reply 65#8 f (taken
        { u with plant := { u.plant with causes := u.plant.causes.set f.port ⟨(u.causes f.port).flags &&& w, w⟩ } } .ok
        fun t => [(.u2, ((t.causes f.port).enables.toNat : Int)), (.u2, ((t.causes f.port).flags.toNat : Int))]))))
  ∧ (∀ (s : State) (p : Port) (c : Cause),
    let t := s.raise p c
    (∀ b, causeBit p c = some b → b < 16 ∧ ((t.causes p).flags.getLsbD b
        = ((s.causes p).flags.getLsbD b || (s.causes p).enables.getLsbD b))
      ∧ ∀ j, j ≠ b → (t.causes p).flags.getLsbD j = (s.causes p).flags.getLsbD j)
    ∧ (causeBit p c = none → t.causes p = s.causes p) ∧ (t.causes p).enables = (s.causes p).enables
    ∧ (∀ q, q ≠ p → t.causes q = s.causes q)
    ∧ t = { s with plant := { s.plant with causes := t.plant.causes } })

/-! ## Lines and samples -/

/-- R169, R147, R161, R171, R27, R98: what the step of a request leaves, from the state `v` that its serving block leaves
and the status and fields it answers: the answer, with the cause flags as they stand; the passes of `v`'s dispatch
events; the capacities, the placement indication, the latch and the lines formed from the records; and everything else
as in `v`. What every
event of a running part ends with, as a request does, from the state `v` that the event leaves: the passes of its
dispatch events, the capacities, the placement indication, the latch and the lines (R106, R27, R98, R147, R161, R171);
everything else as in `v`.
(That the passes run, and that capacities, placement indication, latch and lines are formed, once at the end of the step
is logs 9 and 23, DEDUCED; that the answer is formed after them is log 34, DESIGN CHOICE.) -/
def Obligations.EveryStepEndsSo : Prop :=
  (∀ (code : Byte) (f : Frame) (v : State) (st : Status) (l : State → Fields),
    let t := State.reply code f (taken v st l)
    t.answered code f st (l v.finish) ∧ (∀ q, q ≠ f.port → t.port q = v.port q)
    ∧ t.port f.port = { v.port f.port with answer := (t.port f.port).answer }
    ∧ v.sameBooks t ∧ v.prot.same t.prot ∧ t.prot.timers = v.prot.timers ∧ v.head.same t.head
    ∧ t.plant = { v.plant.dispatch v.env with placed := t.plant.placed }
    ∧ (t.plant.placed = true ↔
        (t.plant.liveOf .grid).length = ordersCalled v.store.cfg (Sys2Proof.Claims.cut v v.plant.heldGrid)
          ∧ ∀ e ∈ t.plant.liveOf .grid, (t.plant.ord e).state = .current)
    ∧ (∀ x, t.prot.latch.get x = Sys2Proof.Claims.latchOf v.prot.mode (v.prot.holdMask.get x) (t.plant.train x))
    ∧ t.pins.permits = t.prot.latch ∧ t.pins.tro = (v.prot.mode == .trip)
    ∧ (∀ q, t.pins.attn.get q = ((t.causes q).flags != 0#16))
    ∧ t.head.pxCap = Sys2Proof.Claims.powerOf t .expand t.prot.dischargeInhibit
    ∧ t.head.pcCap = Sys2Proof.Claims.powerOf t .compress t.prot.chargeInhibit)
  ∧ (∀ v : State,
    let t := v.finish
    v.sameBooks t ∧ v.prot.same t.prot ∧ t.prot.timers = v.prot.timers ∧ v.head.same t.head ∧ t.ports = v.ports
    ∧ t.plant = { v.plant.dispatch v.env with placed := t.plant.placed }
    ∧ (t.plant.placed = true ↔
        (t.plant.liveOf .grid).length = ordersCalled v.store.cfg (Sys2Proof.Claims.cut v v.plant.heldGrid)
          ∧ ∀ e ∈ t.plant.liveOf .grid, (t.plant.ord e).state = .current)
    ∧ (∀ x, t.prot.latch.get x = Sys2Proof.Claims.latchOf v.prot.mode (v.prot.holdMask.get x) (t.plant.train x))
    ∧ t.pins.permits = t.prot.latch ∧ t.pins.tro = (v.prot.mode == .trip)
    ∧ (∀ q, t.pins.attn.get q = ((t.causes q).flags != 0#16))
    ∧ t.head.pxCap = Sys2Proof.Claims.powerOf t .expand t.prot.dischargeInhibit
    ∧ t.head.pcCap = Sys2Proof.Claims.powerOf t .compress t.prot.chargeInhibit)

/-- R4, R5, Table 1-2: a sample of WA and WB. The first becomes the reference and counts nothing; a change of one line
counts +1 when WA leads and -1 when WB leads; a change of both counts nothing and makes the second invalid. -/
def Obligations.WellheadSampleCounts : Prop :=
  ∀ (wa wb : Bool) (s : State), s.supply = .running →
    let v := s.inv
    exec (.wellheadSample wa wb) s = .next (State.finish { s with inv :=
      match v.reference with
      | none => { v with reference := some (wa, wb) }
      | some (ra, rb) => { v with
          reference := some (wa, wb)
          netCount := v.netCount + (if wa ≠ ra ∧ wb = rb then (if wa ≠ rb then 1 else -1)
            else if wa = ra ∧ wb ≠ rb then (if wb = ra then 1 else -1) else 0)
          secondValid := v.secondValid && !(wa != ra && wb != rb) } })

/-- R151: a sample of a discrete input. A disabled line does not move; an agreeing sample clears the count; a
disagreeing one counts, and the one that reaches 1, 3 or 6 by the line's mode changes the qualified value and clears
the count. R157, R158, R161, Table 9-2: a protective line that has become active: EST and GOF enter TRIP from NORMAL
and HOLD, raise TRIP on PA and PB in SETUP and do nothing in TRIP; HRQ enters HOLD from NORMAL and does nothing in
another mode. A line that has become inactive does nothing. -/
def Obligations.DiscreteInputs : Prop :=
  (∀ (l : Line) (level : Bool) (s : State), s.supply = .running →
    let q := s.prot.lines.get l
    let set : Bool → Nat → State := fun active count =>
      { s with prot := { s.prot with lines := s.prot.lines.set l ⟨active, count⟩ } }
    let needed := match s.store.cfg.qualifier.get l with
      | .sync => 1
      | .q3 => 3
      | .q6 => 6
    exec (.qualifierSample l level) s = .next
      (if s.store.cfg.enabled.get l = false then s.finish
       else if (level != s.store.cfg.activeLow.get l) = q.active then (set q.active 0).finish
       else if q.count + 1 < needed then (set q.active (q.count + 1)).finish
       else ((set (!q.active) 0).lineChanged l).finish))
  ∧ (∀ s : State,
    (∀ p, p = .est ∨ p = .gof → (s.prot.lines.prot.get p).active = true →
      s.lineChanged (.prot p) = match s.prot.mode with
        | .normal | .hold => s.enterTrip
        | .setup => { s with plant := s.plant.raiseOn [.pa, .pb] .trip }
        | .trip => s)
    ∧ (s.prot.lines.prot.hrq.active = true →
      s.lineChanged (.prot .hrq) = if s.prot.mode = .normal then s.enterHold else s)
    ∧ ∀ p, (s.prot.lines.prot.get p).active = false → s.lineChanged (.prot p) = s)

/-- R153, R115, R84: PHI or PLO become active latches the inhibit of its kind in every mode: INHIBIT is raised on PA and
PB, no order of the kind stays live and no train of the kind stays STARTING or RUNNING, whichever block reacts first
(the order is free, log 7). An inhibit already latched changes nothing. R154, R126, R22: TS0, TS1 or TS2 become active
isolates its store in every mode: INHIBIT is raised on PA and PB, both its gates are closed, every live order of the
store that is CURRENT or is a BOOK or GRID order retires ISOLATED (a retarget of the same event may have reused its
entry for a new order), SERVICE orders of it that are WAITING, READY or STAGED stay as they are (R126 step 4), and
headroom is recomputed without it; the heat stays. A store already ISOLATED changes nothing. R127: its clearing opens
each gate of the store that stands at its reopening threshold, which promotes as many waiting orders as it has outlets,
and retires nothing. R137, R138, R139, R140: a feedback line's change: it loads the feedback timer of an IDLE train as
it becomes active and of a RUNNING train as it becomes inactive, and stops it on the way back; becoming active it
completes the start of a STARTING train with a fresh RUNNING report, and becoming inactive the stop of a STOPPING train
with a fresh STOPPED report, whose restart inhibit is loaded (one of 0 s runs out as it is loaded); a staged order kept
makes that a dispatch event (R112). Otherwise it changes nothing. -/
def Obligations.InhibitsIsolationAndFeedback : Prop :=
  (∀ s : State, s.plant.linked →
    let latched (k : Kind) (t : State) : Prop :=
      t.ports = s.ports ∧ t.inv = s.inv ∧ t.book = s.book ∧ t.prot.mode = s.prot.mode
      ∧ t.prot.lines = s.prot.lines ∧ t.prot.timers = s.prot.timers ∧ t.prot.isolated = s.prot.isolated
      ∧ t.causes .mk = s.causes .mk ∧ (∀ e, (t.plant.ord e).state.live = true → (t.plant.ord e).kind ≠ k)
      ∧ (∀ x, trainKind x = k → (t.plant.train x).state ≠ .starting ∧ (t.plant.train x).state ≠ .running)
      ∧ ∀ x, x = .pa ∨ x = .pb →
          (t.causes x).flags.getLsbD 7 = ((s.causes x).enables.getLsbD 7 || (s.causes x).flags.getLsbD 7)
    (s.prot.lines.prot.phi.active = true → s.prot.chargeInhibit = false →
      let t := s.lineChanged (.prot .phi)
      t.prot.chargeInhibit = true ∧ t.prot.dischargeInhibit = s.prot.dischargeInhibit ∧ latched .compress t)
    ∧ (s.prot.lines.prot.plo.active = true → s.prot.dischargeInhibit = false →
      let t := s.lineChanged (.prot .plo)
      t.prot.dischargeInhibit = true ∧ t.prot.chargeInhibit = s.prot.chargeInhibit ∧ latched .expand t)
    ∧ (s.prot.chargeInhibit = true → s.lineChanged (.prot .phi) = s)
    ∧ (s.prot.dischargeInhibit = true → s.lineChanged (.prot .plo) = s))
  ∧ (∀ (s : State) (p : Protective) (st : Store), s.plant.linked →
    (p = .ts0 ∧ st = .s0) ∨ (p = .ts1 ∧ st = .s1) ∨ (p = .ts2 ∧ st = .s2) → (s.prot.lines.prot.get p).active = true →
    let t := s.lineChanged (.prot p)
    (s.prot.isolated.get st = true → t = s)
    ∧ (s.prot.isolated.get st = false →
      t.prot = { s.prot with isolated := s.prot.isolated.set st true } ∧ t.inv = s.inv ∧ t.book = s.book ∧ t.res = s.res
      ∧ t.ports = s.ports ∧ t.head = s.head.recompute s.store.cfg s.inv (s.prot.isolated.set st true)
      ∧ (∀ g, (t.plant.gate g).isOpen = ((s.plant.gate g).isOpen && g.1 != st))
      ∧ (∀ k, (t.plant.gate (st, k)).holders = [])
      ∧ (∀ e, (s.plant.ord e).state.live = true → (s.plant.ord e).store = st →
          (s.plant.ord e).state = .current ∨ (s.plant.ord e).origin ≠ .service →
          ((t.plant.ord e).state = .retired ∧ (t.plant.ord e).cause = some .isolated
              ∧ (s.plant.ord e).sameOrder (t.plant.ord e))
            ∨ ((t.plant.ord e).state = .ready ∧ (t.plant.ord e).origin ≠ .service
              ∧ s.plant.seqNo < (t.plant.ord e).created))
      ∧ (∀ e, (s.plant.ord e).origin = .service → (s.plant.ord e).store = st →
          ((s.plant.ord e).state = .waiting ∨ (s.plant.ord e).state = .ready ∨ (s.plant.ord e).state = .staged →
            t.plant.ord e = s.plant.ord e)
          ∧ ((s.plant.ord e).state = .waiting → e ∈ (t.plant.gate (s.plant.ord e).gate).wait)
          ∧ ((s.plant.ord e).state = .ready → e ∈ t.plant.ready)
          ∧ ∀ x, (s.plant.train x).staged = some e → (t.plant.train x).staged = some e)
      ∧ t.causes .mk = s.causes .mk ∧ t.causes .gr = s.causes .gr
      ∧ ∀ x, x = .pa ∨ x = .pb →
          (t.causes x).flags.getLsbD 7 = ((s.causes x).enables.getLsbD 7 || (s.causes x).flags.getLsbD 7)))
  ∧ (∀ (p : Plant) (env : Env) (st : Store), p.linked →
    (∀ k, (p.gate (st, k)).isOpen = false ∧ (p.gate (st, k)).holders = []) →
    let q := p.unisolate env st
    let heat := env.heat.get st
    let f := env.cfg.floor.get st
    let c := env.cfg.ceil.get st
    let h := env.cfg.hysteresis.get st
    ((q.gate (st, .expand)).isOpen = decide (min (f + h) (env.cfg.capacity.get st) ≤ heat ∧ f < heat))
    ∧ ((q.gate (st, .compress)).isOpen = decide (heat ≤ c - h ∧ heat < c))
    ∧ (∀ k, (q.gate (st, k)).holders = [] ∧ (q.gate (st, k)).wait =
        if (q.gate (st, k)).isOpen then (p.gate (st, k)).wait.drop (env.cfg.outlets st k) else (p.gate (st, k)).wait)
    ∧ (∀ g, g.1 ≠ st → q.gate g = p.gate g)
    ∧ (∀ e, let promoted := ∃ k, (q.gate (st, k)).isOpen = true ∧ e ∈ (p.gate (st, k)).wait.take (env.cfg.outlets st k)
        (p.ord e).sameOrder (q.ord e) ∧ (promoted → (q.ord e).state = .ready) ∧ (¬ promoted → q.ord e = p.ord e))
    ∧ q.trains = p.trains ∧ q.causes = p.causes ∧ q.heldBook = p.heldBook ∧ q.heldGrid = p.heldGrid ∧ q.linked)
  ∧ (∀ (s : State) (t : Train),
    let r := s.plant.train t
    let on := (s.prot.lines.feedback.get t).active
    let p := (s.lineChanged (.feedback t)).plant
    let inhibit := s.store.cfg.restartInhibit.get (trainKind t)
    let put : TrainRec → Plant := fun x => { s.plant with trains := s.plant.trains.set t x }
    let idle : Option Nat → TrainRec := fun i => { r with
      state := .idle, command := .none, fresh := false, window := none, inhibit := i, feedback := none, fault := none }
    s.lineChanged (.feedback t) = { s with plant := p }
    ∧ ((r.state = .idle ∧ on = true) ∨ (r.state = .running ∧ on = false) →
        p = put { r with feedback := some s.store.cfg.feedbackWindow })
    ∧ ((r.state = .idle ∧ on = false) ∨ (r.state = .running ∧ on = true) → p = put { r with feedback := none })
    ∧ (r.state = .starting → on = true →
        p = if r.fresh = true ∧ r.reported = some .running then
          put { r with
            state := .running, command := .run, fresh := false, window := none, inhibit := none, feedback := none
            fault := none }
          else s.plant)
    ∧ (r.state = .stopping → on = false → r.fresh = true → r.reported = some .stopped →
        p = if inhibit ≠ 0 then { put (idle (some inhibit)) with due := s.plant.due || r.staged.isSome }
          else (put (idle (some 0))).inhibitOut s.env t)
    ∧ (r.state = .stopping → on = true ∨ r.fresh = false ∨ r.reported ≠ some .stopped → p = s.plant)
    ∧ (r.state = .offline ∨ r.state = .fault ∨ r.state = .lost ∨ (r.state = .starting ∧ on = false) → p = s.plant))

/-! ## Seconds -/

namespace Sys2Proof.Claims

/-- R100, R135, R163: one second on every running link timer, train timer and counting budget, and nothing else of the
timers, trains and orders. -/
def counted (s t : State) : Prop :=
  let less : Option Nat → Option Nat := fun x => x.map (· - 1)
  (∀ p, t.prot.timers.get p = match s.prot.timers.get p with
    | .running n => .running (n - 1)
    | x => x)
  ∧ (∀ x, t.plant.train x = { s.plant.train x with
      window := less (s.plant.train x).window
      inhibit := less (s.plant.train x).inhibit
      feedback := less (s.plant.train x).feedback })
  ∧ ∀ e, t.plant.ord e =
      if (s.plant.ord e).state = .current ∧ (s.plant.ord e).origin = .service
          ∧ (∃ x, (s.plant.ord e).train = some x ∧ (s.plant.train x).state = .running) then
        { s.plant.ord e with budget := less (s.plant.ord e).budget }
      else s.plant.ord e

end Sys2Proof.Claims

/-- R40, R100, R135, R163, log 3: a Timebase second with nothing left over from the last, while unsynchronised: 1 is
taken from every running link timer, from every running timer of a train and from the budget of every SERVICE order that
is CURRENT on a RUNNING train (one that reaches 0 stands at 0 until its own expiry event or the next second is taken:
log 3, DEDUCED, the model's reading); the time, the account, the book, the Sweep and the reserve stand. R40, R62, R86: a
synchronised second within an interval, with nothing left over from the last: the timers and budgets count as in an
unsynchronised one; the second in interval advances by 1; the active slot adds the net power of the trains and the
activation; the placement wait counts in NORMAL while a GRID target stands below the minimum load or without its
placement, and is 0 otherwise; reaching 60 it raises RESERVE_SHORT on GR. R68, R69, R70: the Sweep takes its part of the
second on the second it has become and the headroom of the state it finds: the Sweep, every slot's at-risk flag and
reason and MK's causes are then those of that part (which SweepCommandsAndSteps spells out). The account and the ports
stand. -/
def Obligations.TimebaseSeconds : Prop :=
  (∀ s : State, s.supply = .running → s.nothingDue → s.tb.synced = false →
    let less : Option Nat → Option Nat := fun x => x.map (· - 1)
    ∃ t, exec .timebaseSecond s = .next t
      ∧ (∀ p, t.prot.timers.get p = match s.prot.timers.get p with
          | .running n => .running (n - 1)
          | x => x)
      ∧ (∀ x, t.plant.train x = { s.plant.train x with
          window := less (s.plant.train x).window
          inhibit := less (s.plant.train x).inhibit
          feedback := less (s.plant.train x).feedback })
      ∧ (∀ e, t.plant.ord e =
          if (s.plant.ord e).state = .current ∧ (s.plant.ord e).origin = .service
              ∧ (∃ x, (s.plant.ord e).train = some x ∧ (s.plant.train x).state = .running) then
            { s.plant.ord e with budget := less (s.plant.ord e).budget }
          else s.plant.ord e)
      ∧ t.tb = s.tb ∧ t.inv = s.inv ∧ t.book = s.book ∧ t.sweep = s.sweep ∧ t.res = s.res ∧ t.ports = s.ports
      ∧ t.store = s.store ∧ t.pending = s.pending ∧ t.free = s.free)
  ∧ (∀ s : State, s.supply = .running → s.nothingDue → s.tb.synced = true → s.tb.second < 899 →
    (s.plant.placed = s.plant.indication s.env) →
    let counts : Prop := s.prot.mode = .normal ∧ ∃ k w, s.res.gridTarget = some (k, w)
      ∧ (w < s.store.cfg.minLoad.get k ∨ s.plant.placed = false)
    ∃ t, exec .timebaseSecond s = .next t ∧ t.tb = ⟨true, s.tb.current, s.tb.second + 1⟩
      ∧ (∀ f, (s.book.slot s.tb.current).state = .active → (s.book.slot s.tb.current).eff = some f →
          (t.book.slot s.tb.current).eff = some { f with
            deliveredNet := f.deliveredNet + (((s.plant.train .x0).power + (s.plant.train .x1).power
              + (s.plant.train .x2).power + (s.plant.train .x3).power : Nat) : Int)
              - (((s.plant.train .c0).power + (s.plant.train .c1).power + (s.plant.train .c2).power
              + (s.plant.train .c3).power : Nat) : Int)
            activated := f.activated + s.res.a })
      ∧ (counts → t.res = { s.res with wait := min 60 (s.res.wait + 1) })
      ∧ (¬ counts → t.res = { s.res with wait := 0 })
      ∧ (counts → s.res.wait = 59 → (s.causes .gr).enables.getLsbD 1 = true → (t.causes .gr).flags.getLsbD 1 = true)
      ∧ t.inv = s.inv ∧ t.ports = s.ports ∧ t.store = s.store ∧ t.book.page = s.book.page
      ∧ t.book.windows = s.book.windows
      ∧ (∀ n, (t.book.slot n).vals = (s.book.slot n).vals ∧ (t.book.slot n).tag = (s.book.slot n).tag
          ∧ (t.book.slot n).state = (s.book.slot n).state ∧ (t.book.slot n).revisions = (s.book.slot n).revisions)
      ∧ (let w := ({ s with tb := ⟨true, s.tb.current, s.tb.second + 1⟩, head := s.finish.head } : State).sweepSecond
        t.sweep = w.sweep ∧ (∀ n, (t.book.slot n).risk = (w.book.slot n).risk) ∧ t.causes .mk = w.causes .mk)
      ∧ Sys2Proof.Claims.counted s t)

namespace Sys2Proof.Claims

/-- R71, R67, R68: the Sweep in the second that turns the interval, from s to t. IDLE it stands. RUNNING, its base is the
new interval, its cycle count stands, and in one order, which is free (log 6), it has taken no step and the new slot keeps
the flag its record had (a record mapped by the turn has none, R44); in the other it has taken the step at pointer 0 of
the new cycle, on the state of the turn. -/
def sweptAtTurn (s t : State) : Prop :=
  let n := s.tb.current + 1
  let start := { s.sweep with base := n, pointer := 0, carried := none }
  let x := s.book.slot n
  let prior := if x.state ≠ .free ∧ x.tag = n then x.risk else none
  let w := ({ t with sweep := start } : State).sweepSecond
  let risk := (t.book.slot n).risk
  let raised := (t.causes .mk).flags.getLsbD 0
  if s.sweep.running = false then t.sweep = s.sweep ∧ risk = prior ∧ raised = (s.causes .mk).flags.getLsbD 0
  else
    (t.sweep = start ∧ risk = prior ∧ raised = (s.causes .mk).flags.getLsbD 0)
    ∨ (t.sweep = w.sweep ∧ t.sweep.base = n ∧ t.sweep.pointer = 1 ∧ t.sweep.cycles = s.sweep.cycles
      ∧ risk = (w.book.slot n).risk
      ∧ raised = ((s.causes .mk).flags.getLsbD 0
          || (risk.isSome && prior.isNone && (s.causes .mk).enables.getLsbD 0)))

end Sys2Proof.Claims

/-- R43, R61, R38, R63, R13, R77, R80, R84: the second that turns the interval, with nothing left over from the last:
the interval is the next, its second 0; the slot that was ACTIVE is CLOSED with its deviation; the next slot is ACTIVE
with its committed values, or with zeros when the book has no record of it, its accumulators at 0, and the effective
values of R38 on the headroom of the turn, from before or after the standing loss (which is free: log 5), CURTAILED
being raised on MK when something was cut; a SEEDED account loses an interval's standing loss; the activation is brought
into the new holding, ACT_CLAMPED being raised on GR when that cuts it, and the targets handed are those the state then
calls for; the link timers count. R71, R67: the Sweep, RUNNING, starts a cycle at the new interval, and takes its step
at pointer 0 in this second or not, which is free (log 6). A second that turns no interval does nothing as an
INTERVAL_TURN (log 4). -/
def Obligations.TurnOfTheInterval : Prop :=
  ∀ s : State, s.supply = .running → s.nothingDue →
    (s.tb.synced = true → 899 ≤ s.tb.second → s.sweep.base ≠ s.tb.current + 1 →
      let n := s.tb.current
      ∃ t, exec .intervalTurn s = .next t ∧ t.tb = ⟨true, n + 1, 0⟩
        ∧ (∀ f, (s.book.slot n).state = .active → (s.book.slot n).eff = some f →
            let g : Effective := { f with
              deliveredNet := f.deliveredNet + s.plant.netPower, activated := f.activated + s.res.a }
            t.book.slot n = { s.book.slot n with
              state := .closed, eff := some g, deviation := some ((g.deliveredNet - g.activated).tdiv 3600 - f.e) })
        ∧ (t.book.slot (n + 1)).state = .active ∧ (t.book.slot (n + 1)).tag = n + 1
        ∧ (t.book.slot (n + 1)).vals = s.book.vals (n + 1) ∧ (t.book.slot (n + 1)).deviation = none
        ∧ (∃ f h, (t.book.slot (n + 1)).eff = some f ∧ f.deliveredNet = 0 ∧ f.activated = 0
            ∧ t.res.a = max (-f.dn) (min s.res.a f.up)
            ∧ (h = s.finish.head ∨ h = s.finish.head.recompute s.store.cfg t.inv s.prot.isolated)
            ∧ f = ({ s with head := h } : State).effective (n + 1) (s.book.vals (n + 1))
            ∧ (t.causes .mk).flags.getLsbD 1 = ((s.causes .mk).flags.getLsbD 1
                || (f.curtailment != 0 && (s.causes .mk).enables.getLsbD 1)))
        ∧ (t.causes .gr).flags.getLsbD 0 = ((s.causes .gr).flags.getLsbD 0
            || (t.res.a != s.res.a && (s.causes .gr).enables.getLsbD 0))
        ∧ (t.res.bookTarget, t.res.gridTarget) = t.targets
        ∧ (∀ p, t.prot.timers.get p = match s.prot.timers.get p with
            | .running n => .running (n - 1)
            | x => x)
        ∧ t.res.requested = s.res.requested
        ∧ (∀ st, t.inv.heat.get st = if s.inv.seeded then
            s.inv.heat.get st - s.inv.heat.get st * s.store.cfg.lossPpm.get st / 1000000 else s.inv.heat.get st)
        ∧ t.inv.mass = s.inv.mass ∧ t.ports = s.ports ∧ t.store = s.store ∧ t.book.page = s.book.page
        ∧ (∀ m, m % 192 ≠ n % 192 → m % 192 ≠ (n + 1) % 192 → t.book.slot m = s.book.slot m)
        ∧ Sys2Proof.Claims.sweptAtTurn s t)
    ∧ (s.tb.synced = false ∨ s.tb.second < 899 → exec .intervalTurn s = .next s.finish)

/-- R73, R67: SWEEP_RESTART: refused NOT_SYNCED, then NOT_SEEDED; otherwise a cycle starts at the current interval,
and the answer carries the cycle count, which does not move. R68, R69, R70, R71: the Sweep's part of a second. IDLE it
does nothing; with a base that is not the current interval it starts a cycle; otherwise it steps the slot of base +
pointer: the result is written into that slot when it holds the interval, NEW_AT_RISK being raised on MK when a clear
flag is set; the pointer moves on, and the step at pointer 191 completes the cycle, which is counted, and starts the
next. (The step at pointer 0 with its windows judged on the energy that remains is log 30, DEDUCED.) -/
def Obligations.SweepCommandsAndSteps : Prop :=
  (∀ (f : Frame) (s : State), s.accepts 41#8 f → f.port = .mk → f.payload = [] →
    let u := s.received f.port
    exec (.sweepRestart f) s = .next
      (if s.tb.synced = false then s.repliesOnly 41#8 f .notSynced []
       else if s.inv.seeded = false then s.repliesOnly 41#8 f .notSeeded []
       else State.reply 41#8 f (taken
        { u with sweep := { u.sweep with base := s.tb.current, pointer := 0, carried := none } } .ok
        fun _ => [(.u2, (s.sweep.cycles : Int))])))
  ∧ (∀ s : State,
    let t := s.sweepSecond
    let n := s.sweep.base + s.sweep.pointer
    let c := if s.sweep.pointer = 0 then s.startCarried else s.sweep.carried.getD s.startCarried
    let v := if s.sweep.pointer = 0 then s.activeVals else s.book.vals n
    let power := if s.sweep.pointer = 0 then 4 * s.active.e else 4 * v.e
    let r := stepReason s.store.cfg s.head s.book c n v power
    let x := s.book.slot n
    let holds := x.state ≠ .free ∧ x.tag = n
    (s.sweep.running = false → t = s)
    ∧ (s.sweep.running = true → s.sweep.base ≠ s.tb.current →
        t = { s with sweep := { s.sweep with base := s.tb.current, pointer := 0, carried := none } })
    ∧ (s.sweep.running = true → s.sweep.base = s.tb.current →
        t.book.slot n = (if holds then { x with risk := r } else x)
        ∧ (∀ m, m % 192 ≠ n % 192 → t.book.slot m = s.book.slot m)
        ∧ (t.plant = if holds ∧ r.isSome = true ∧ x.risk = none then s.plant.raise .mk .newAtRisk else s.plant)
        ∧ (t.sweep = if s.sweep.pointer < 191 then
            { s.sweep with pointer := s.sweep.pointer + 1, carried := some (c.after s.store.cfg v.e) }
          else { s.sweep with
            base := s.tb.current, pointer := 0, carried := none, cycles := (s.sweep.cycles + 1) % 65536 })
        ∧ t = { s with book := { s.book with slots := t.book.slots }, plant := t.plant, sweep := t.sweep }))

/-- R70, R86, log 4: SWEEP_CYCLE_COMPLETE is the second whose step completes a cycle, and PLACEMENT_WAIT_EXPIRY the second
that brings the wait to 60, RESERVE_SHORT being raised on GR; a second in which that does not come about does nothing as
one of them. -/
def Obligations.NamedSeconds : Prop :=
  ∀ s : State, s.supply = .running → s.nothingDue → s.plant.placed = s.plant.indication s.env →
    let completes : Prop := s.tb.synced = true ∧ s.tb.second < 899 ∧ s.sweep.running = true ∧ s.sweep.base = s.tb.current
      ∧ 191 ≤ s.sweep.pointer
    let ends : Prop := s.tb.synced = true ∧ s.res.wait = 59 ∧ s.prot.mode = .normal
      ∧ ∃ k w, s.res.gridTarget = some (k, w) ∧ (w < s.store.cfg.minLoad.get k ∨ s.plant.placed = false)
    (completes → ∃ t, exec .sweepCycleComplete s = .next t ∧ t.sweep.cycles = (s.sweep.cycles + 1) % 65536
      ∧ t.sweep.base = s.tb.current ∧ t.sweep.pointer = 0 ∧ t.sweep.carried = none ∧ t.sweep.running = true
      ∧ t.tb = ⟨true, s.tb.current, s.tb.second + 1⟩ ∧ t.inv = s.inv ∧ t.ports = s.ports ∧ t.store = s.store)
    ∧ (¬ completes → exec .sweepCycleComplete s = .next s.finish)
    ∧ (ends → ∃ t, exec .placementWaitExpiry s = .next t ∧ t.res.wait = 60
      ∧ ((s.causes .gr).enables.getLsbD 1 = true → (t.causes .gr).flags.getLsbD 1 = true) ∧ t.tb.synced = true
      ∧ t.ports = s.ports ∧ t.store = s.store ∧ t.inv.mass = s.inv.mass)
    ∧ (¬ ends → exec .placementWaitExpiry s = .next s.finish)

/-! ## The accounting second -/

namespace Sys2Proof.Claims

/-- R10: the reported mass of the trains of a kind, over all stores. -/
def reportedSum (v : Inventory) (l : List Train) : Nat :=
  (l.map fun t => (v.acc.get t).s0 + (v.acc.get t).s1 + (v.acc.get t).s2).sum

/-- R6, R8: the wellhead grams of the second, from the remainder the source gives. -/
def gramsOf (s : State) : Int :=
  s.inv.netCount * s.store.cfg.gramsPerCount + (if s.inv.source = .wellhead then s.inv.gramRem else 0)

/-- Table 1-4, R7, R8: the second has a wellhead mass: it is valid, and the source is the meter, now or by this second. -/
def hasWellhead (v : Inventory) : Prop := v.secondValid = true ∧ (v.source = .wellhead ∨ 60 ≤ v.cleanStreak + 1)

end Sys2Proof.Claims

/-- R6, R7, R8, R10, R11, Tables 1-3 and 1-4: an accounting second. The decoder and the accumulators start afresh; the source
falls to TRAIN_SUM on the third invalid second running and returns to WELLHEAD on the sixtieth valid one, each setting
its streaks; a second with a wellhead mass keeps the grams left over; while SEEDED the mass moves by the wellhead's
kilograms or by the reports, and each store's heat by the reported mass and the heat factors, within their ranges; while
UNSEEDED both stand. -/
def Obligations.AccountingSecondMovesTheAccount : Prop :=
  ∀ s : State, s.supply = .running →
    let v := s.inv
    let c := s.store.cfg
    let g := Sys2Proof.Claims.gramsOf s
    let ac := Sys2Proof.Claims.reportedSum v (trainsOf .compress)
    let ax := Sys2Proof.Claims.reportedSum v (trainsOf .expand)
    let lost := v.source = .wellhead ∧ v.secondValid = false ∧ 3 ≤ v.invalidStreak + 1
    let back := v.source = .trainSum ∧ v.secondValid = true ∧ 60 ≤ v.cleanStreak + 1
    ∃ t, exec .accountingSecond s = .next t
      ∧ t.inv.netCount = 0 ∧ t.inv.secondValid = true ∧ t.inv.acc = .all (.all 0) ∧ t.inv.reference = v.reference
      ∧ t.inv.seeded = v.seeded ∧ t.inv.lastStore = v.lastStore
      ∧ (lost → t.inv.source = .trainSum ∧ t.inv.invalidStreak = 0 ∧ t.inv.cleanStreak = 0 ∧ t.inv.gramRem = 0
          ∧ t.inv.reconFault = true)
      ∧ (back → t.inv.source = .wellhead ∧ t.inv.invalidStreak = 0 ∧ t.inv.cleanStreak = 0)
      ∧ (¬ lost → ¬ back → t.inv.source = v.source)
      ∧ (v.source = .wellhead → ¬ lost →
          t.inv.invalidStreak = (if v.secondValid then 0 else v.invalidStreak + 1))
      ∧ (v.source = .trainSum → ¬ back → t.inv.gramRem = 0 ∧
          t.inv.cleanStreak = (if v.secondValid then v.cleanStreak + 1 else 0))
      ∧ (Sys2Proof.Claims.hasWellhead v → t.inv.gramRem = g - 1000 * g.tdiv 1000)
      ∧ (v.source = .wellhead → v.secondValid = false → ¬ lost → t.inv.gramRem = v.gramRem)
      ∧ (v.seeded = true → Sys2Proof.Claims.hasWellhead v →
          (t.inv.mass : Int) = min (max 0 (v.mass + g.tdiv 1000)) 40000000)
      ∧ (v.seeded = true → ¬ Sys2Proof.Claims.hasWellhead v →
          (t.inv.mass : Int) = min (max 0 (v.mass + ac - ax)) 40000000)
      ∧ (v.seeded = true → ∀ st, (t.inv.heat.get st : Int) = min (max 0 (v.heat.get st
          + c.hc * ((trainsOf .compress).map fun x => (v.acc.get x).get st).sum
          - c.hd * ((trainsOf .expand).map fun x => (v.acc.get x).get st).sum)) (c.capacity.get st))
      ∧ (v.seeded = false → t.inv.mass = v.mass ∧ t.inv.heat = v.heat)
      ∧ t.tb = s.tb ∧ t.book = s.book ∧ t.sweep = s.sweep ∧ t.ports = s.ports ∧ t.store = s.store
      ∧ t.prot.timers = s.prot.timers ∧ t.prot.lines = s.prot.lines ∧ t.prot.isolated = s.prot.isolated

namespace Sys2Proof.Claims

/-- R6, R8: the second's wellhead mass in kg, when it has one. -/
def wellheadMass (s : State) : Option Int :=
  if s.inv.secondValid = true ∧ (s.inv.source = .wellhead ∨ 60 ≤ s.inv.cleanStreak + 1) then
    some ((gramsOf s).tdiv 1000)
  else none

/-- R7, R8, R18: the account as the reconciliation of a second finds it: after the source has been judged. -/
def sourceJudged (v : Inventory) (lost back : Bool) : Inventory :=
  { v with
    source := if lost then .trainSum else if back then .wellhead else v.source
    reconFault := v.reconFault || lost
    sumWellhead := if lost || back then 0 else v.sumWellhead
    sumTrains := if lost || back then 0 else v.sumTrains
    throughput := if lost || back then 0 else v.throughput
    windowSeconds := if lost || back then 0 else v.windowSeconds
    passStreak := if lost || back then 0 else v.passStreak }

end Sys2Proof.Claims

/-- R14, R15, R17: the reconciliation window. Only a valid second under WELLHEAD of a SEEDED account counts; a full window
passes when the two sums differ by at most T_abs and the part of the throughput, and starts afresh; three passes running
clear RECON_FAULT, one that does not pass sets it; RECON is raised when it changes. R7, R8, R11, R16: what an accounting
second raises: RECON on MK, PA and PB when the source changes or a judged window changes RECON_FAULT; HEAT_LIMIT on PA
and PB when, in a SEEDED account, a store's heat reaches 0 or its capacity; and a gross mismatch enters HOLD from
NORMAL, MODE being raised on MK and GR (and RESERVE_SHORT on GR when an activation comes to be withheld), and changes no
other mode. The window judged is that of the account after the source has been judged, with the second's wellhead mass
and the masses the trains reported. R12, R22, R123, R125: then the headroom is recomputed on the new account, the gates
are evaluated on the new heat, and the step ends as every step does (the hold of a gross mismatch before the gates: log
27). -/
def Obligations.ReconciliationWindow : Prop :=
  (∀ (v : Inventory) (cfg : Cfg) (wellhead : Option Int) (ac ax : Nat),
    let r := v.reconcile cfg wellhead ac ax
    let u := r.inv
    (v.seeded = false ∨ v.source = .trainSum ∨ wellhead = none → r = ⟨v, false, false⟩)
    ∧ ∀ w, v.seeded = true → v.source = .wellhead → wellhead = some w →
      let d := (v.sumWellhead + w - (v.sumTrains + ac - ax)).natAbs
      let tol : Int := cfg.tAbs + (v.throughput + ac + ax) * cfg.tRel / 1000
      u.mass = v.mass ∧ u.heat = v.heat
      ∧ (v.windowSeconds + 1 < cfg.window →
          u = { v with
            sumWellhead := v.sumWellhead + w, sumTrains := v.sumTrains + ac - ax
            throughput := v.throughput + ac + ax, windowSeconds := v.windowSeconds + 1 }
          ∧ r.raised = false ∧ r.gross = false)
      ∧ (cfg.window ≤ v.windowSeconds + 1 → 0 ≤ v.throughput →
          u.sumWellhead = 0 ∧ u.sumTrains = 0 ∧ u.throughput = 0 ∧ u.windowSeconds = 0
          ∧ (if (d : Int) ≤ tol then
              u.passStreak = min 3 (v.passStreak + 1) ∧ r.gross = false
              ∧ u.reconFault = (v.reconFault && decide (v.passStreak + 1 < 3))
              ∧ r.raised = (v.reconFault && decide (3 ≤ v.passStreak + 1))
            else u.passStreak = 0 ∧ u.reconFault = true ∧ r.raised = !v.reconFault ∧ r.gross = decide (4 * tol < d))))
  ∧ (∀ s : State, s.supply = .running →
    let v := s.inv
    let lost := v.source == .wellhead && !v.secondValid && decide (3 ≤ v.invalidStreak + 1)
    let back := v.source == .trainSum && v.secondValid && decide (60 ≤ v.cleanStreak + 1)
    let r := (Sys2Proof.Claims.sourceJudged v lost back).reconcile s.store.cfg (Sys2Proof.Claims.wellheadMass s)
      (Sys2Proof.Claims.reportedSum v (trainsOf .compress)) (Sys2Proof.Claims.reportedSum v (trainsOf .expand))
    let recon := lost || back || r.raised
    let hold := r.gross && s.prot.mode == .normal
    ∃ t, exec .accountingSecond s = .next t
      ∧ t.prot.mode = (if hold then .hold else s.prot.mode)
      ∧ (t.inv.passStreak = r.inv.passStreak ∧ t.inv.reconFault = r.inv.reconFault ∧ t.inv.sumWellhead = r.inv.sumWellhead
        ∧ t.inv.sumTrains = r.inv.sumTrains ∧ t.inv.throughput = r.inv.throughput
        ∧ t.inv.windowSeconds = r.inv.windowSeconds)
      ∧ t.causes .mk = Sys2Proof.Claims.raised (s.causes .mk) .mk
          ((if recon then [.recon] else []) ++ if hold then [.mode] else [])
      ∧ t.causes .gr = Sys2Proof.Claims.raised (s.causes .gr) .gr
          (if hold then (if s.res.a ≠ 0 ∧ s.res.withheld = false then [.mode, .reserveShort] else [.mode]) else [])
      ∧ (let limit := v.seeded && storeList.any fun st =>
            (t.inv.heat.get st == 0 && decide (0 < v.heat.get st))
              || (t.inv.heat.get st == s.store.cfg.capacity.get st
                && decide (v.heat.get st < s.store.cfg.capacity.get st))
        let p := if recon then s.plant.raiseOn [.mk, .pa, .pb] .recon else s.plant
        let u : State := { s with inv := t.inv, plant := if limit then p.raiseOn [.pa, .pb] .heatLimit else p }
        let w := if hold then u.enterHold else u
        t = State.finish { w with
          head := s.head.recompute s.store.cfg t.inv s.prot.isolated
          plant := w.plant.evaluateGates { w.env with heat := t.inv.heat } })
      ∧ ∀ x, x = .pa ∨ x = .pb →
          (t.causes x).flags.getLsbD 5 = ((s.causes x).flags.getLsbD 5 || (recon && (s.causes x).enables.getLsbD 5))
          ∧ ((t.causes x).flags.getLsbD 4 = true ↔ (s.causes x).flags.getLsbD 4 = true
            ∨ (v.seeded = true ∧ (s.causes x).enables.getLsbD 4 = true
              ∧ ∃ st, (t.inv.heat.get st = 0 ∧ 0 < v.heat.get st)
                ∨ (t.inv.heat.get st = s.store.cfg.capacity.get st
                  ∧ v.heat.get st < s.store.cfg.capacity.get st))))

namespace Sys2Proof.Claims

/-- R124: the order is CURRENT and its store is at the limit that ends it. -/
def ends (p : Plant) (env : Env) (e : Entry) : Prop :=
  let o := p.ord e
  o.state = .current ∧ ((o.kind = .expand ∧ env.heat.get o.store = 0)
    ∨ (o.kind = .compress ∧ env.heat.get o.store = env.cfg.capacity.get o.store))

/-- R123, R124, R125, R120, R122: what one evaluation leaves, before any retarget, with the gates open as `opened` says: the
ended orders retire and their trains stop; a reopening gate promotes as many orders as it has free permits, an OPEN one
as many as it had permits freed; the promoted stand gate by gate; nothing else changes. -/
def evaluated (p w : Plant) (env : Env) (opened : Store × Kind → Bool) : Prop :=
  let outlets : Store × Kind → Nat := fun g => match g.2 with
    | .expand => env.cfg.drawOutlets.get g.1
    | .compress => env.cfg.fillOutlets.get g.1
  let limit : Store × Kind → Bool := fun g => match g.2 with
    | .expand => env.heat.get g.1 == 0
    | .compress => env.heat.get g.1 == env.cfg.capacity.get g.1
  let held := fun g => (p.gate g).holders.length
  let served := fun g => (if opened g = true ∧ (p.gate g).isOpen = false then outlets g - held g else 0)
    + (if opened g = true ∧ limit g = true then held g else 0)
  let promoted := fun e => (p.ord e).state = .waiting ∧ e ∈ (p.gate (p.ord e).gate).wait.take (served (p.ord e).gate)
  (∀ g, (w.gate g).isOpen = opened g ∧ (limit g = true → (w.gate g).holders = [])
    ∧ (limit g = false → (w.gate g).holders = (p.gate g).holders) ∧ (w.gate g).wait = (p.gate g).wait.drop (served g))
  ∧ (∀ e, (ends p env e → (w.ord e).state = .retired ∧ (p.ord e).sameOrder (w.ord e)
        ∧ (w.ord e).cause = some (if (p.ord e).kind = .expand then .heatExhausted else .heatFull))
      ∧ (promoted e → w.ord e = { p.ord e with state := .ready, train := none, stagedAt := none })
      ∧ (¬ ends p env e → ¬ promoted e → w.ord e = p.ord e))
  ∧ (∀ t, (∀ e, (p.train t).current = some e → ends p env e → w.train t = sentToStop env.cfg t (p.train t))
      ∧ ((∀ e, (p.train t).current = some e → ¬ ends p env e) → w.train t = p.train t))
  ∧ (p.ranked → readyPlaces p w [] [] ∧ ((∀ g, limit g = true → opened g = false) → gateByGate p w))
  ∧ w.causes = p.causes ∧ w.heldBook = p.heldBook ∧ w.heldGrid = p.heldGrid ∧ w.short = p.short ∧ w.linked

end Sys2Proof.Claims

/-- R123, R124, R125, R120, R122, Table 7-2: an evaluation of the gates: a gate of an ISOLATED store stays; another is
OPEN afterwards exactly when it was and does not stand at its closing threshold, or was not and stands at its reopening
threshold; at 0 heat no order is CURRENT on the draw gate's store as a discharge, at the capacity none as a charge. A
gate that reopens promotes from the head of its wait list as many orders as it has free permits. The orders CURRENT on a
store at its limit retire HEAT_EXHAUSTED or HEAT_FULL, and their trains go to STOPPING. No other order or train changes,
but that a retarget follows when a BOOK or GRID order has retired so, or when one has retired while the short mark was
set (R92, R97). -/
def Obligations.GatesFollowTheHeat : Prop :=
  ∀ (p : Plant) (env : Env), p.linked →
    let q := p.evaluateGates env
    (∀ st k, (q.gate (st, k)).isOpen =
      let heat := env.heat.get st
      let f := env.cfg.floor.get st
      let c := env.cfg.ceil.get st
      let h := env.cfg.hysteresis.get st
      if env.isolated.get st then (p.gate (st, k)).isOpen
      else match k, (p.gate (st, k)).isOpen with
        | .expand, true => decide (f < heat)
        | .expand, false => decide (min (f + h) (env.cfg.capacity.get st) ≤ heat ∧ f < heat)
        | .compress, true => decide (heat < c)
        | .compress, false => decide (heat ≤ c - h ∧ heat < c))
    ∧ (∀ st, env.heat.get st = 0 → (q.gate (st, .expand)).holders = [])
    ∧ (∀ st, env.heat.get st = env.cfg.capacity.get st → (q.gate (st, .compress)).holders = [])
    ∧ (∀ e, (p.ord e).state = .current → (q.ord e).state ≠ .current →
        let o := p.ord e
        (o.kind = .expand ∧ env.heat.get o.store = 0)
          ∨ (o.kind = .compress ∧ env.heat.get o.store = env.cfg.capacity.get o.store) ∨ o.origin ≠ .service)
    ∧ q.linked
    ∧ ∃ w : Plant, Sys2Proof.Claims.evaluated p w env (fun g => (q.gate g).isOpen)
      ∧ ((∃ e, Sys2Proof.Claims.ends p env e ∧ (p.short = true ∨ (p.ord e).origin ≠ .service)) → q = w.retarget env)
      ∧ (¬ (∃ e, Sys2Proof.Claims.ends p env e ∧ (p.short = true ∨ (p.ord e).origin ≠ .service)) → q = w)

/-! ## Timers that have run out (log 3) -/

namespace Sys2Proof.Claims

/-- R141, R104, R105, Table 8-3: a train in FAULT with its cause: STOP is posted, its timers are stopped, its current order
is READY, at the head of its level, with the train in its bar set, a staged order at the tail of its level, its permit
freed (R120), and TRAIN_FAULT is raised on its owner's link. -/
def faulted (s : State) (p : Plant) (t : Train) (c : FaultCause) : Prop :=
  (p.train t).state = .fault ∧ (p.train t).fault = some c ∧ (p.train t).command = .stop ∧ (p.train t).current = none
    ∧ (p.train t).staged = none ∧ (p.train t).window = none ∧ (p.train t).feedback = none
    ∧ (p.train t).power = (s.plant.train t).power
    ∧ (∀ e, (s.plant.train t).current = some e →
        (p.ord e).state = .ready ∧ (p.ord e).bars = (s.plant.ord e).bars.set t true)
    ∧ (∀ e, (s.plant.train t).staged = some e → (p.ord e).state = .ready)
    ∧ returned s.plant p (s.plant.train t).current.toList (s.plant.train t).staged.toList
    ∧ (∀ e, (s.plant.ord e).sameOrder (p.ord e)) ∧ (∀ x, x ≠ t → p.train x = s.plant.train x)
    ∧ ∀ q, p.causes.get q = if (s.store.cfg.owner.get t).port? = some q then
        raised (s.plant.causes.get q) q [.trainFault] else s.plant.causes.get q

end Sys2Proof.Claims

/-- R100, R92, R120: an order whose budget stands at 0 retires BUDGET_END, its train stops and a freed permit of an OPEN
gate promotes (R122); nothing else changes (the stamp is log 21, DEDUCED; R97: a retarget of the plant after the
retirement follows when the short mark was set); for another order BUDGET_END does nothing. R138, R140, Table 8-3: a
start window at 0 puts a STARTING train in FAULT START_TIMEOUT, a stop window at 0 a STOPPING train in FAULT
STOP_TIMEOUT; otherwise the expiry does nothing. R137, R139: a feedback timer at 0 sends an IDLE train to STOPPING,
which keeps its staged order (the change is then a dispatch event, R112), and puts a RUNNING train in FAULT
FEEDBACK_MISMATCH; otherwise the expiry does nothing. R102, R105: a train in FAULT returns its current order to the head
of its level and its staged order to the tail; then the freed permits promote. -/
def Obligations.BudgetsAndTrainTimersRunOut : Prop :=
  (∀ (s : State) (e : Entry), s.supply = .running →
    ((s.plant.ord e).budgetOut = false → exec (.budgetEnd e) s = .next s.finish)
    ∧ ((s.plant.ord e).state.live = true → (s.plant.ord e).origin = .service → (s.plant.ord e).budget = some 0 →
      ∃ p, exec (.budgetEnd e) s = .next (State.finish
          { s with plant := if s.plant.short = true then p.retarget s.env else p })
        ∧ (s.plant.linked → Sys2Proof.Claims.retiredAlone s.plant p s.store.cfg e .budgetEnd)))
  ∧ (∀ (s : State) (t : Train), s.supply = .running → s.plant.linked →
    let r := s.plant.train t
    (if r.state = .starting ∧ r.window = some 0 then
      ∃ p, exec (.startWindowExpiry t) s = .next (State.finish { s with plant := p })
        ∧ Sys2Proof.Claims.faulted s p t .startTimeout
    else exec (.startWindowExpiry t) s = .next s.finish)
    ∧ (if r.state = .stopping ∧ r.window = some 0 then
      ∃ p, exec (.stopWindowExpiry t) s = .next (State.finish { s with plant := p })
        ∧ Sys2Proof.Claims.faulted s p t .stopTimeout
    else exec (.stopWindowExpiry t) s = .next s.finish))
  ∧ (∀ (s : State) (t : Train), s.supply = .running → s.plant.linked →
    let r := s.plant.train t
    (r.state = .idle → r.feedback = some 0 →
      let stopping : TrainRec := { r with
        state := .stopping, command := .stop, fresh := false, inhibit := none, feedback := none, fault := none
        window := some (s.store.cfg.stopWindow.get (trainKind t)) }
      exec (.feedbackTimerExpiry t) s = .next (State.finish { s with plant := { s.plant with
        trains := s.plant.trains.set t stopping
        due := s.plant.due || r.staged.isSome } }))
    ∧ (r.state = .running → r.feedback = some 0 →
      ∃ p, exec (.feedbackTimerExpiry t) s = .next (State.finish { s with plant := p })
        ∧ Sys2Proof.Claims.faulted s p t .feedbackMismatch)
    ∧ (r.feedback ≠ some 0 ∨ (r.state ≠ .idle ∧ r.state ≠ .running) →
      exec (.feedbackTimerExpiry t) s = .next s.finish))

/-- R137, R112, R106: a restart inhibit at 0 makes an IDLE train eligible, a dispatch event. A staged order it holds is
placed when the train is eligible for it and its gate can grant, waits at its gate when the gate cannot, behind every
order of its priority or a higher one (R121), and else returns to the tail of its level in the ready list (R102). For
another train the expiry does nothing. -/
def Obligations.RestartInhibitRunsOut : Prop :=
  ∀ (s : State) (t : Train), s.supply = .running → s.plant.linked →
    let r := s.plant.train t
    let free := s.plant.modTrain t fun x => { x with inhibit := none }
    (r.state ≠ .idle ∨ r.inhibit ≠ some 0 → exec (.restartInhibitExpiry t) s = .next s.finish)
    ∧ (r.state = .idle → r.inhibit = some 0 → ∃ p,
      exec (.restartInhibitExpiry t) s = .next (State.finish { s with plant := p }) ∧ p.due = true
      ∧ (∀ x, x ≠ t → p.train x = s.plant.train x) ∧ (∀ e, (s.plant.ord e).sameOrder (p.ord e))
      ∧ (r.staged = none → p = { free with due := true })
      ∧ ∀ e, r.staged = some e →
        (p.train t).staged = none
        ∧ (if free.eligible s.env (s.plant.ord e) t then
            if s.plant.canGrant s.store.cfg (s.plant.ord e).gate then
              (p.ord e).state = .current ∧ (p.ord e).train = some t ∧ (p.train t).current = some e
              ∧ (p.train t).state = .starting ∧ (p.train t).command = .run
              ∧ (p.train t).window = some (s.store.cfg.startWindow.get (trainKind t))
              ∧ (p.train t).starts = (r.starts + 1) % 65536
            else (p.ord e).state = .waiting ∧ (p.train t).state = .idle ∧ (p.train t).inhibit = none
              ∧ (s.plant.ranked → ∃ a b, (s.plant.gate (s.plant.ord e).gate).wait = a ++ b
                ∧ (p.gate (s.plant.ord e).gate).wait = a ++ e :: b
                ∧ (∀ x ∈ a, (s.plant.ord e).priority ≤ (s.plant.ord x).priority)
                ∧ ∀ x ∈ b, (s.plant.ord x).priority < (s.plant.ord e).priority)
          else Sys2Proof.Claims.atTail s.plant p e ∧ (p.train t).state = .idle ∧ (p.train t).inhibit = none))

/-- R163, R143, R164, R81, R60, R169: a link timer at 0 is EXPIRED and the link's repeat memory is cleared. Of a plant
link, the trains go to LOST, giving up their orders (R105: current ones to the head of their level, staged ones to the
tail, in the order of the trains, before the freed permits promote, R120, R122), OTHER_LINK_LOST is raised on the other
plant link, and HOLD is entered from NORMAL when that link had been lost before; of MK the open page is dropped; of GR
the activation ends. For a timer that does not stand at 0 the expiry does nothing. -/
def Obligations.LinkTimerRunsOut : Prop :=
  ∀ (s : State) (p : Port), s.supply = .running → s.plant.linked →
    (s.prot.timers.get p ≠ .running 0 → exec (.linkTimerExpiry p) s = .next s.finish)
    ∧ (s.prot.timers.get p = .running 0 →
      let v : State := { s with
        prot := { s.prot with timers := s.prot.timers.set p .expired }
        ports := s.ports.set p { s.ports.get p with memory := none } }
      (p = .mk → exec (.linkTimerExpiry p) s = .next
        (if s.book.page = none then v.finish
         else State.finish { v with
          book := { v.book with page := none }
          plant := v.plant.raise .mk .pageDropped }))
      ∧ (p = .gr → exec (.linkTimerExpiry p) s = .next (State.finish
          (({ v with
            res := { v.res with a := 0, requested := 0 }
            plant := v.plant.raise .gr .actEnded } : State).reform.judgeWithheld false)))
      ∧ ∀ o, otherPlant p = some o → ∃ w : State,
        exec (.linkTimerExpiry p) s = .next (State.finish
          (if s.prot.timers.get o = .expired ∧ s.prot.mode = .normal then w.enterHold else w))
        ∧ w = { v with plant := w.plant }
        ∧ (∀ t, if s.store.cfg.owner.get t = ownerOfPort p then
            (w.plant.train t).state = .lost ∧ (w.plant.train t).command = .stop ∧ (w.plant.train t).current = none
            ∧ (w.plant.train t).staged = none ∧ (w.plant.train t).fault = none ∧ (w.plant.train t).window = none
            ∧ (w.plant.train t).inhibit = none ∧ (w.plant.train t).feedback = none
            ∧ (w.plant.train t).power = (s.plant.train t).power
            ∧ (w.plant.train t).reported = (s.plant.train t).reported
            ∧ ∀ e, (s.plant.train t).current = some e ∨ (s.plant.train t).staged = some e →
                (w.plant.ord e).state = .ready
          else w.plant.train t = s.plant.train t)
        ∧ (let lost := [Train.c0, .c1, .c2, .c3, .x0, .x1, .x2, .x3].filter fun t =>
            (s.store.cfg.owner.get t).port? == some p
          Sys2Proof.Claims.returned s.plant w.plant (lost.filterMap fun t => (s.plant.train t).current)
            (lost.filterMap fun t => (s.plant.train t).staged))
        ∧ (∀ e, (s.plant.ord e).sameOrder (w.plant.ord e)) ∧ w.plant.linked
        ∧ w.causes o = Sys2Proof.Claims.raised (s.causes o) o [.otherLinkLost]
        ∧ ∀ q, q ≠ o → w.causes q = s.causes q)

/-! ## What every step keeps -/

/-- R1, R6, R7, R8, R15, R25: from any state in which the account, the streaks and the headroom lie in their ranges, every
step leaves them there. -/
def Obligations.StepsKeepTheRanges : Prop :=
  ∀ s t : State, s.inRanges → step s = .next t → t.inRanges

/-- R147, R148, R161, R171, R180: from any state in which the lines say what the state says, every step leaves them so:
no permit is asserted outside NORMAL and HOLD nor for a train without a current order, TRO is asserted in TRIP alone,
ATTN while a flag is set, and nothing while the part is held (R180) or without supply (that is log 20, DEDUCED). R171,
R173: from any state with no flag set whose enable is clear, every step leaves it so. -/
def Obligations.StepsKeepLinesAndFlags : Prop :=
  (∀ s t : State, s.linesSound → step s = .next t → t.linesSound)
  ∧ (∀ s t : State, s.flagsEnabled → step s = .next t → t.flagsEnabled)

/-- R89, R102, R118, R119, R121, R132: from any state in which orders, lists, gates and trains agree (the ready list and
the wait lists in falling priority, the holders of a gate no more than its outlets, the store of a current order in its
train's mask), no order stands in SETUP and none is live in TRIP (R115, R117), every step leaves them so. -/
def Obligations.StepsKeepTheOrdersLinked : Prop :=
  ∀ s t : State, s.ordersSound → step s = .next t → t.ordersSound

/-- R143: from any state in which no train whose owner's link timer has expired is STARTING or RUNNING, every step leaves
it so. -/
def Obligations.StepsKeepDutyLinksLive : Prop :=
  ∀ s t : State, s.dutyLinksLive → step s = .next t → t.dutyLinksLive

/-- R79, R80, R81: from any state in which the activation lies within the holding, and is 0 while the Grid Link is
lost, every step leaves it so. R82, R83, R84, R94: from any state in which the Dispatch Unit holds the targets that
the book, the activation, the mode and the inhibits call for, every step leaves it so. -/
def Obligations.StepsKeepTheReserve : Prop :=
  (∀ s t : State, s.activationHeld → step s = .next t → t.activationHeld)
  ∧ (∀ s t : State, s.targetsHanded → step s = .next t → t.targetsHanded)

/-- R180, R27, R147: the reset state meets every invariant, has nothing due, and holds what the rules say: SETUP,
unsynchronised and UNSEEDED, no interval, no order, every train OFFLINE, every link timer NOT_STARTED, every line
released, the defaults unvalidated. The receivers' SKIP is R175's; the image of a new part is log 18; the empty queue
and the supply RUNNING are log 32, DESIGN CHOICE. -/
def Obligations.ResetMeetsTheInvariants : Prop :=
  let s := State.reset
  s.inRanges ∧ s.linesSound ∧ s.flagsEnabled ∧ s.ordersSound ∧ s.dutyLinksLive ∧ s.activationHeld ∧ s.targetsHanded
    ∧ s.nothingDue ∧ s.pending = [] ∧ s.supply = .running ∧ s.prot.mode = .setup ∧ s.tb.synced = false
    ∧ s.inv.seeded = false ∧ (∀ e, (s.plant.ord e).state = .free) ∧ (∀ t, (s.plant.train t).state = .offline)
    ∧ (∀ p, s.prot.timers.get p = .notStarted ∧ (s.port p).rx = .skip ∧ (s.port p).memory = none)
    ∧ s.pins = .released ∧ s.store.cfg = .defaults ∧ s.store.unvalidated = true

namespace Sys2Proof.Claims

/-- The command brings a well-formed frame of the code on the link (R166): it is that frame, or characters one of which
ends it. -/
def brings (i : Instr) (s : State) (code : Byte) (p : Port) : Prop :=
  (∃ f, i.request? = some (code, f) ∧ f.port = p)
  ∨ ∃ a c b seq payload, i = .frameDiscarded p (a ++ c :: b)
      ∧ (((a.foldl (fun t x => t.receiveChar p x) s).port p).rxChar c).frame = some (seq, code, payload)

end Sys2Proof.Claims

/-- R3, R157, R41, R66: a cold reset alone leads back to SETUP, to UNSEEDED, to an unsynchronised Timebase or to an
IDLE Sweep; and the interval only rises once it has been set. R177, R145, R176: outside SETUP no command but a cold
reset changes a configuration item, but that a HANDOVER frame from a plant link gives one train to that link. R161, R162:
TRIP is left by a cold reset, or to HOLD by a RESET_TRIP frame from a plant link with EST and GOF inactive, and not
otherwise. -/
def Obligations.WhatOnlyCertainCommandsChange : Prop :=
  (∀ (i : Instr) (s t : State), exec i s = .next t → i ≠ .coldReset →
    (t.prot.mode = .setup → s.prot.mode = .setup) ∧ (s.inv.seeded = true → t.inv.seeded = true)
    ∧ (s.tb.synced = true → t.tb.synced = true ∧ s.tb.current ≤ t.tb.current)
    ∧ (s.sweep.running = true → t.sweep.running = true))
  ∧ (∀ (i : Instr) (s t : State), i.wellFormed = true → exec i s = .next t → i ≠ .coldReset → s.prot.mode ≠ .setup →
    t.store.cfg = s.store.cfg
    ∨ ∃ x p, isPlant p = true ∧ Sys2Proof.Claims.brings i s 13#8 p
        ∧ t.store.cfg = { s.store.cfg with owner := s.store.cfg.owner.set x (ownerOfPort p) })
  ∧ (∀ (i : Instr) (s t : State), i.wellFormed = true → exec i s = .next t → s.prot.mode = .trip → t.prot.mode ≠ .trip →
    i ≠ .coldReset →
    t.prot.mode = .hold ∧ s.prot.lines.prot.est.active = false ∧ s.prot.lines.prot.gof.active = false
    ∧ ∃ p, isPlant p = true ∧ Sys2Proof.Claims.brings i s 10#8 p)

/-- R169: a frame that the repeat memory holds is answered from the memory, byte for byte, and its request is not
taken again. R166: a frame that begins while an answer is outstanding is discarded whole: the receiver goes to SKIP,
the timer is not reloaded, nothing is answered. R169: a frame that a party sends again, when the repeat memory does
not hold it, is taken like any other of its code; and a frame whose code is in no row of Table 10-4 is answered
UNKNOWN whatever it carries. -/
def Obligations.FramesThatAreNotTaken : Prop :=
  (∀ (i : Instr) (code : Byte) (f : Frame) (s : State) (a : Answer), i.request? = some (code, f) →
    s.supply = .running → (s.port f.port).answer = .none → f.payload.length ≤ 120 →
    (s.port f.port).memory = some (frameKey code f, a) →
    exec i s = .next ((s.heard f.port).setAnswer f.port (.sending (frameKey code f) a)))
  ∧ (∀ (i : Instr) (code : Byte) (f : Frame) (s : State), i.request? = some (code, f) → s.supply = .running →
    (s.port f.port).answer ≠ .none →
    ∃ t, exec i s = .next t ∧ (t.port f.port).rx = .skip ∧ (t.port f.port).answer = (s.port f.port).answer
      ∧ (t.port f.port).memory = (s.port f.port).memory ∧ (∀ q, q ≠ f.port → t.port q = s.port q)
      ∧ t.prot = s.prot ∧ t.plant = s.plant ∧ t.head = s.head ∧ t.pins = s.pins ∧ s.sameBooks t)
  ∧ ((∀ (i : Instr) (code : Byte) (f : Frame) (s : State), i.request? = some (code, f) → exec (.repeatFrame code f) s = exec i s)
  ∧ ∀ (code : Byte) (f : Frame) (s : State), s.accepts code f → catalogueCode code = false →
      exec (.unknownRequest code f) s = .next (s.repliesOnly code f .unknown []))
end

