-- ==== Sys2Proof/Laws/State.lean ====
section
/-! SUPPORT. Reads of the state's fields after each update, and reads of the tables after a write. -/

namespace Sys2Proof.Machine

/-! ## Tables: a read after a write -/

@[simp] theorem PerStore.get_set_self {α : Type} (p : PerStore α) (k : Store) (a : α) : (p.set k a).get k = a := by
  cases k <;> rfl
theorem PerStore.get_set_other {α : Type} (p : PerStore α) (j k : Store) (a : α) (h : k ≠ j) : (p.set j a).get k = p.get k := by
  cases j <;> cases k <;> first | rfl | exact absurd rfl h
theorem PerStore.get_set {α : Type} (p : PerStore α) (j k : Store) (a : α) :
    (p.set j a).get k = if k = j then a else p.get k := by
  cases j <;> cases k <;> rfl
@[simp] theorem PerStore.get_all {α : Type} (a : α) (k : Store) : (PerStore.all a).get k = a := by
  cases k <;> rfl
@[simp] theorem PerStore.set_set {α : Type} (p : PerStore α) (k : Store) (a b : α) : (p.set k a).set k b = p.set k b := by
  cases k <;> rfl
@[simp] theorem PerStore.get_of {α : Type} (f : Store → α) (k : Store) : (PerStore.of f).get k = f k := by
  cases k <;> rfl
@[simp] theorem PerKind.get_set_self {α : Type} (p : PerKind α) (k : Kind) (a : α) : (p.set k a).get k = a := by
  cases k <;> rfl
theorem PerKind.get_set_other {α : Type} (p : PerKind α) (j k : Kind) (a : α) (h : k ≠ j) : (p.set j a).get k = p.get k := by
  cases j <;> cases k <;> first | rfl | exact absurd rfl h
theorem PerKind.get_set {α : Type} (p : PerKind α) (j k : Kind) (a : α) :
    (p.set j a).get k = if k = j then a else p.get k := by
  cases j <;> cases k <;> rfl
@[simp] theorem PerKind.get_all {α : Type} (a : α) (k : Kind) : (PerKind.all a).get k = a := by
  cases k <;> rfl
@[simp] theorem PerKind.set_set {α : Type} (p : PerKind α) (k : Kind) (a b : α) : (p.set k a).set k b = p.set k b := by
  cases k <;> rfl
@[simp] theorem PerTrain.get_set_self {α : Type} (p : PerTrain α) (k : Train) (a : α) : (p.set k a).get k = a := by
  cases k <;> rfl
theorem PerTrain.get_set_other {α : Type} (p : PerTrain α) (j k : Train) (a : α) (h : k ≠ j) : (p.set j a).get k = p.get k := by
  cases j <;> cases k <;> first | rfl | exact absurd rfl h
theorem PerTrain.get_set {α : Type} (p : PerTrain α) (j k : Train) (a : α) :
    (p.set j a).get k = if k = j then a else p.get k := by
  cases j <;> cases k <;> rfl
@[simp] theorem PerTrain.get_all {α : Type} (a : α) (k : Train) : (PerTrain.all a).get k = a := by
  cases k <;> rfl
@[simp] theorem PerTrain.set_set {α : Type} (p : PerTrain α) (k : Train) (a b : α) : (p.set k a).set k b = p.set k b := by
  cases k <;> rfl
@[simp] theorem PerTrain.get_of {α : Type} (f : Train → α) (k : Train) : (PerTrain.of f).get k = f k := by
  cases k <;> rfl
@[simp] theorem PerPort.get_set_self {α : Type} (p : PerPort α) (k : Port) (a : α) : (p.set k a).get k = a := by
  cases k <;> rfl
theorem PerPort.get_set_other {α : Type} (p : PerPort α) (j k : Port) (a : α) (h : k ≠ j) : (p.set j a).get k = p.get k := by
  cases j <;> cases k <;> first | rfl | exact absurd rfl h
theorem PerPort.get_set {α : Type} (p : PerPort α) (j k : Port) (a : α) :
    (p.set j a).get k = if k = j then a else p.get k := by
  cases j <;> cases k <;> rfl
@[simp] theorem PerPort.get_all {α : Type} (a : α) (k : Port) : (PerPort.all a).get k = a := by
  cases k <;> rfl
@[simp] theorem PerPort.set_set {α : Type} (p : PerPort α) (k : Port) (a b : α) : (p.set k a).set k b = p.set k b := by
  cases k <;> rfl
@[simp] theorem PerPort.get_of {α : Type} (f : Port → α) (k : Port) : (PerPort.of f).get k = f k := by
  cases k <;> rfl
@[simp] theorem PerProtective.get_set_self {α : Type} (p : PerProtective α) (k : Protective) (a : α) : (p.set k a).get k = a := by
  cases k <;> rfl
theorem PerProtective.get_set_other {α : Type} (p : PerProtective α) (j k : Protective) (a : α) (h : k ≠ j) : (p.set j a).get k = p.get k := by
  cases j <;> cases k <;> first | rfl | exact absurd rfl h
theorem PerProtective.get_set {α : Type} (p : PerProtective α) (j k : Protective) (a : α) :
    (p.set j a).get k = if k = j then a else p.get k := by
  cases j <;> cases k <;> rfl
@[simp] theorem PerProtective.get_all {α : Type} (a : α) (k : Protective) : (PerProtective.all a).get k = a := by
  cases k <;> rfl
@[simp] theorem PerProtective.set_set {α : Type} (p : PerProtective α) (k : Protective) (a b : α) : (p.set k a).set k b = p.set k b := by
  cases k <;> rfl
theorem PerLine.get_set {α : Type} (p : PerLine α) (j k : Line) (a : α) :
    (p.set j a).get k = if k = j then a else p.get k := by
  rcases j with j | j <;> rcases k with k | k <;> cases j <;> cases k <;> rfl

/-! ## Fields after updates -/

@[simp] theorem State.withPending_supply (s : State) (l : List Instr) : (s.withPending l).supply = s.supply := rfl
@[simp] theorem State.withPending_tb (s : State) (l : List Instr) : (s.withPending l).tb = s.tb := rfl
@[simp] theorem State.withPending_inv (s : State) (l : List Instr) : (s.withPending l).inv = s.inv := rfl
@[simp] theorem State.withPending_head (s : State) (l : List Instr) : (s.withPending l).head = s.head := rfl
@[simp] theorem State.withPending_book (s : State) (l : List Instr) : (s.withPending l).book = s.book := rfl
@[simp] theorem State.withPending_sweep (s : State) (l : List Instr) : (s.withPending l).sweep = s.sweep := rfl
@[simp] theorem State.withPending_res (s : State) (l : List Instr) : (s.withPending l).res = s.res := rfl
@[simp] theorem State.withPending_plant (s : State) (l : List Instr) : (s.withPending l).plant = s.plant := rfl
@[simp] theorem State.withPending_prot (s : State) (l : List Instr) : (s.withPending l).prot = s.prot := rfl
@[simp] theorem State.withPending_ports (s : State) (l : List Instr) : (s.withPending l).ports = s.ports := rfl
@[simp] theorem State.withPending_store (s : State) (l : List Instr) : (s.withPending l).store = s.store := rfl
@[simp] theorem State.withPending_pins (s : State) (l : List Instr) : (s.withPending l).pins = s.pins := rfl
@[simp] theorem State.withPending_free (s : State) (l : List Instr) : (s.withPending l).free = s.free := rfl
@[simp] theorem State.onPlant_pending (s : State) (f : Env → Plant → Plant) : (s.onPlant f).pending = s.pending := rfl
@[simp] theorem State.onPlant_supply (s : State) (f : Env → Plant → Plant) : (s.onPlant f).supply = s.supply := rfl
@[simp] theorem State.onPlant_tb (s : State) (f : Env → Plant → Plant) : (s.onPlant f).tb = s.tb := rfl
@[simp] theorem State.onPlant_inv (s : State) (f : Env → Plant → Plant) : (s.onPlant f).inv = s.inv := rfl
@[simp] theorem State.onPlant_head (s : State) (f : Env → Plant → Plant) : (s.onPlant f).head = s.head := rfl
@[simp] theorem State.onPlant_book (s : State) (f : Env → Plant → Plant) : (s.onPlant f).book = s.book := rfl
@[simp] theorem State.onPlant_sweep (s : State) (f : Env → Plant → Plant) : (s.onPlant f).sweep = s.sweep := rfl
@[simp] theorem State.onPlant_res (s : State) (f : Env → Plant → Plant) : (s.onPlant f).res = s.res := rfl
@[simp] theorem State.onPlant_prot (s : State) (f : Env → Plant → Plant) : (s.onPlant f).prot = s.prot := rfl
@[simp] theorem State.onPlant_ports (s : State) (f : Env → Plant → Plant) : (s.onPlant f).ports = s.ports := rfl
@[simp] theorem State.onPlant_store (s : State) (f : Env → Plant → Plant) : (s.onPlant f).store = s.store := rfl
@[simp] theorem State.onPlant_pins (s : State) (f : Env → Plant → Plant) : (s.onPlant f).pins = s.pins := rfl
@[simp] theorem State.onPlant_free (s : State) (f : Env → Plant → Plant) : (s.onPlant f).free = s.free := rfl
@[simp] theorem State.raise_pending (s : State) (p : Port) (c : Cause) : (s.raise p c).pending = s.pending := rfl
@[simp] theorem State.raise_supply (s : State) (p : Port) (c : Cause) : (s.raise p c).supply = s.supply := rfl
@[simp] theorem State.raise_tb (s : State) (p : Port) (c : Cause) : (s.raise p c).tb = s.tb := rfl
@[simp] theorem State.raise_inv (s : State) (p : Port) (c : Cause) : (s.raise p c).inv = s.inv := rfl
@[simp] theorem State.raise_head (s : State) (p : Port) (c : Cause) : (s.raise p c).head = s.head := rfl
@[simp] theorem State.raise_book (s : State) (p : Port) (c : Cause) : (s.raise p c).book = s.book := rfl
@[simp] theorem State.raise_sweep (s : State) (p : Port) (c : Cause) : (s.raise p c).sweep = s.sweep := rfl
@[simp] theorem State.raise_res (s : State) (p : Port) (c : Cause) : (s.raise p c).res = s.res := rfl
@[simp] theorem State.raise_prot (s : State) (p : Port) (c : Cause) : (s.raise p c).prot = s.prot := rfl
@[simp] theorem State.raise_ports (s : State) (p : Port) (c : Cause) : (s.raise p c).ports = s.ports := rfl
@[simp] theorem State.raise_store (s : State) (p : Port) (c : Cause) : (s.raise p c).store = s.store := rfl
@[simp] theorem State.raise_pins (s : State) (p : Port) (c : Cause) : (s.raise p c).pins = s.pins := rfl
@[simp] theorem State.raise_free (s : State) (p : Port) (c : Cause) : (s.raise p c).free = s.free := rfl
@[simp] theorem State.raiseOn_pending (s : State) (l : List Port) (c : Cause) : (s.raiseOn l c).pending = s.pending := rfl
@[simp] theorem State.raiseOn_supply (s : State) (l : List Port) (c : Cause) : (s.raiseOn l c).supply = s.supply := rfl
@[simp] theorem State.raiseOn_tb (s : State) (l : List Port) (c : Cause) : (s.raiseOn l c).tb = s.tb := rfl
@[simp] theorem State.raiseOn_inv (s : State) (l : List Port) (c : Cause) : (s.raiseOn l c).inv = s.inv := rfl
@[simp] theorem State.raiseOn_head (s : State) (l : List Port) (c : Cause) : (s.raiseOn l c).head = s.head := rfl
@[simp] theorem State.raiseOn_book (s : State) (l : List Port) (c : Cause) : (s.raiseOn l c).book = s.book := rfl
@[simp] theorem State.raiseOn_sweep (s : State) (l : List Port) (c : Cause) : (s.raiseOn l c).sweep = s.sweep := rfl
@[simp] theorem State.raiseOn_res (s : State) (l : List Port) (c : Cause) : (s.raiseOn l c).res = s.res := rfl
@[simp] theorem State.raiseOn_prot (s : State) (l : List Port) (c : Cause) : (s.raiseOn l c).prot = s.prot := rfl
@[simp] theorem State.raiseOn_ports (s : State) (l : List Port) (c : Cause) : (s.raiseOn l c).ports = s.ports := rfl
@[simp] theorem State.raiseOn_store (s : State) (l : List Port) (c : Cause) : (s.raiseOn l c).store = s.store := rfl
@[simp] theorem State.raiseOn_pins (s : State) (l : List Port) (c : Cause) : (s.raiseOn l c).pins = s.pins := rfl
@[simp] theorem State.raiseOn_free (s : State) (l : List Port) (c : Cause) : (s.raiseOn l c).free = s.free := rfl
@[simp] theorem State.raiseRecon_pending (s : State) : (s.raiseRecon).pending = s.pending := rfl
@[simp] theorem State.raiseRecon_supply (s : State) : (s.raiseRecon).supply = s.supply := rfl
@[simp] theorem State.raiseRecon_tb (s : State) : (s.raiseRecon).tb = s.tb := rfl
@[simp] theorem State.raiseRecon_inv (s : State) : (s.raiseRecon).inv = s.inv := rfl
@[simp] theorem State.raiseRecon_head (s : State) : (s.raiseRecon).head = s.head := rfl
@[simp] theorem State.raiseRecon_book (s : State) : (s.raiseRecon).book = s.book := rfl
@[simp] theorem State.raiseRecon_sweep (s : State) : (s.raiseRecon).sweep = s.sweep := rfl
@[simp] theorem State.raiseRecon_res (s : State) : (s.raiseRecon).res = s.res := rfl
@[simp] theorem State.raiseRecon_prot (s : State) : (s.raiseRecon).prot = s.prot := rfl
@[simp] theorem State.raiseRecon_ports (s : State) : (s.raiseRecon).ports = s.ports := rfl
@[simp] theorem State.raiseRecon_store (s : State) : (s.raiseRecon).store = s.store := rfl
@[simp] theorem State.raiseRecon_pins (s : State) : (s.raiseRecon).pins = s.pins := rfl
@[simp] theorem State.raiseRecon_free (s : State) : (s.raiseRecon).free = s.free := rfl
@[simp] theorem State.setCauses_pending (s : State) (p : Port) (x : Causes) : (s.setCauses p x).pending = s.pending := rfl
@[simp] theorem State.setCauses_supply (s : State) (p : Port) (x : Causes) : (s.setCauses p x).supply = s.supply := rfl
@[simp] theorem State.setCauses_tb (s : State) (p : Port) (x : Causes) : (s.setCauses p x).tb = s.tb := rfl
@[simp] theorem State.setCauses_inv (s : State) (p : Port) (x : Causes) : (s.setCauses p x).inv = s.inv := rfl
@[simp] theorem State.setCauses_head (s : State) (p : Port) (x : Causes) : (s.setCauses p x).head = s.head := rfl
@[simp] theorem State.setCauses_book (s : State) (p : Port) (x : Causes) : (s.setCauses p x).book = s.book := rfl
@[simp] theorem State.setCauses_sweep (s : State) (p : Port) (x : Causes) : (s.setCauses p x).sweep = s.sweep := rfl
@[simp] theorem State.setCauses_res (s : State) (p : Port) (x : Causes) : (s.setCauses p x).res = s.res := rfl
@[simp] theorem State.setCauses_prot (s : State) (p : Port) (x : Causes) : (s.setCauses p x).prot = s.prot := rfl
@[simp] theorem State.setCauses_ports (s : State) (p : Port) (x : Causes) : (s.setCauses p x).ports = s.ports := rfl
@[simp] theorem State.setCauses_store (s : State) (p : Port) (x : Causes) : (s.setCauses p x).store = s.store := rfl
@[simp] theorem State.setCauses_pins (s : State) (p : Port) (x : Causes) : (s.setCauses p x).pins = s.pins := rfl
@[simp] theorem State.setCauses_free (s : State) (p : Port) (x : Causes) : (s.setCauses p x).free = s.free := rfl
@[simp] theorem State.dispatch_pending (s : State) : (s.dispatch).pending = s.pending := rfl
@[simp] theorem State.dispatch_supply (s : State) : (s.dispatch).supply = s.supply := rfl
@[simp] theorem State.dispatch_tb (s : State) : (s.dispatch).tb = s.tb := rfl
@[simp] theorem State.dispatch_inv (s : State) : (s.dispatch).inv = s.inv := rfl
@[simp] theorem State.dispatch_head (s : State) : (s.dispatch).head = s.head := rfl
@[simp] theorem State.dispatch_book (s : State) : (s.dispatch).book = s.book := rfl
@[simp] theorem State.dispatch_sweep (s : State) : (s.dispatch).sweep = s.sweep := rfl
@[simp] theorem State.dispatch_res (s : State) : (s.dispatch).res = s.res := rfl
@[simp] theorem State.dispatch_prot (s : State) : (s.dispatch).prot = s.prot := rfl
@[simp] theorem State.dispatch_ports (s : State) : (s.dispatch).ports = s.ports := rfl
@[simp] theorem State.dispatch_store (s : State) : (s.dispatch).store = s.store := rfl
@[simp] theorem State.dispatch_pins (s : State) : (s.dispatch).pins = s.pins := rfl
@[simp] theorem State.dispatch_free (s : State) : (s.dispatch).free = s.free := rfl
@[simp] theorem State.setMode_pending (s : State) (m : PlantMode) : (s.setMode m).pending = s.pending := rfl
@[simp] theorem State.setMode_supply (s : State) (m : PlantMode) : (s.setMode m).supply = s.supply := rfl
@[simp] theorem State.setMode_tb (s : State) (m : PlantMode) : (s.setMode m).tb = s.tb := rfl
@[simp] theorem State.setMode_inv (s : State) (m : PlantMode) : (s.setMode m).inv = s.inv := rfl
@[simp] theorem State.setMode_head (s : State) (m : PlantMode) : (s.setMode m).head = s.head := rfl
@[simp] theorem State.setMode_book (s : State) (m : PlantMode) : (s.setMode m).book = s.book := rfl
@[simp] theorem State.setMode_sweep (s : State) (m : PlantMode) : (s.setMode m).sweep = s.sweep := rfl
@[simp] theorem State.setMode_res (s : State) (m : PlantMode) : (s.setMode m).res = s.res := rfl
@[simp] theorem State.setMode_plant (s : State) (m : PlantMode) : (s.setMode m).plant = s.plant := rfl
@[simp] theorem State.setMode_ports (s : State) (m : PlantMode) : (s.setMode m).ports = s.ports := rfl
@[simp] theorem State.setMode_store (s : State) (m : PlantMode) : (s.setMode m).store = s.store := rfl
@[simp] theorem State.setMode_pins (s : State) (m : PlantMode) : (s.setMode m).pins = s.pins := rfl
@[simp] theorem State.setMode_free (s : State) (m : PlantMode) : (s.setMode m).free = s.free := rfl
@[simp] theorem State.setTimer_pending (s : State) (p : Port) (t : LinkTimer) : (s.setTimer p t).pending = s.pending := rfl
@[simp] theorem State.setTimer_supply (s : State) (p : Port) (t : LinkTimer) : (s.setTimer p t).supply = s.supply := rfl
@[simp] theorem State.setTimer_tb (s : State) (p : Port) (t : LinkTimer) : (s.setTimer p t).tb = s.tb := rfl
@[simp] theorem State.setTimer_inv (s : State) (p : Port) (t : LinkTimer) : (s.setTimer p t).inv = s.inv := rfl
@[simp] theorem State.setTimer_head (s : State) (p : Port) (t : LinkTimer) : (s.setTimer p t).head = s.head := rfl
@[simp] theorem State.setTimer_book (s : State) (p : Port) (t : LinkTimer) : (s.setTimer p t).book = s.book := rfl
@[simp] theorem State.setTimer_sweep (s : State) (p : Port) (t : LinkTimer) : (s.setTimer p t).sweep = s.sweep := rfl
@[simp] theorem State.setTimer_res (s : State) (p : Port) (t : LinkTimer) : (s.setTimer p t).res = s.res := rfl
@[simp] theorem State.setTimer_plant (s : State) (p : Port) (t : LinkTimer) : (s.setTimer p t).plant = s.plant := rfl
@[simp] theorem State.setTimer_ports (s : State) (p : Port) (t : LinkTimer) : (s.setTimer p t).ports = s.ports := rfl
@[simp] theorem State.setTimer_store (s : State) (p : Port) (t : LinkTimer) : (s.setTimer p t).store = s.store := rfl
@[simp] theorem State.setTimer_pins (s : State) (p : Port) (t : LinkTimer) : (s.setTimer p t).pins = s.pins := rfl
@[simp] theorem State.setTimer_free (s : State) (p : Port) (t : LinkTimer) : (s.setTimer p t).free = s.free := rfl
@[simp] theorem State.restartCount_pending (s : State) (l : Line) : (s.restartCount l).pending = s.pending := rfl
@[simp] theorem State.restartCount_supply (s : State) (l : Line) : (s.restartCount l).supply = s.supply := rfl
@[simp] theorem State.restartCount_tb (s : State) (l : Line) : (s.restartCount l).tb = s.tb := rfl
@[simp] theorem State.restartCount_inv (s : State) (l : Line) : (s.restartCount l).inv = s.inv := rfl
@[simp] theorem State.restartCount_head (s : State) (l : Line) : (s.restartCount l).head = s.head := rfl
@[simp] theorem State.restartCount_book (s : State) (l : Line) : (s.restartCount l).book = s.book := rfl
@[simp] theorem State.restartCount_sweep (s : State) (l : Line) : (s.restartCount l).sweep = s.sweep := rfl
@[simp] theorem State.restartCount_res (s : State) (l : Line) : (s.restartCount l).res = s.res := rfl
@[simp] theorem State.restartCount_plant (s : State) (l : Line) : (s.restartCount l).plant = s.plant := rfl
@[simp] theorem State.restartCount_ports (s : State) (l : Line) : (s.restartCount l).ports = s.ports := rfl
@[simp] theorem State.restartCount_store (s : State) (l : Line) : (s.restartCount l).store = s.store := rfl
@[simp] theorem State.restartCount_pins (s : State) (l : Line) : (s.restartCount l).pins = s.pins := rfl
@[simp] theorem State.restartCount_free (s : State) (l : Line) : (s.restartCount l).free = s.free := rfl
@[simp] theorem State.modPort_pending (s : State) (p : Port) (f : LinkPort → LinkPort) : (s.modPort p f).pending = s.pending := rfl
@[simp] theorem State.modPort_supply (s : State) (p : Port) (f : LinkPort → LinkPort) : (s.modPort p f).supply = s.supply := rfl
@[simp] theorem State.modPort_tb (s : State) (p : Port) (f : LinkPort → LinkPort) : (s.modPort p f).tb = s.tb := rfl
@[simp] theorem State.modPort_inv (s : State) (p : Port) (f : LinkPort → LinkPort) : (s.modPort p f).inv = s.inv := rfl
@[simp] theorem State.modPort_head (s : State) (p : Port) (f : LinkPort → LinkPort) : (s.modPort p f).head = s.head := rfl
@[simp] theorem State.modPort_book (s : State) (p : Port) (f : LinkPort → LinkPort) : (s.modPort p f).book = s.book := rfl
@[simp] theorem State.modPort_sweep (s : State) (p : Port) (f : LinkPort → LinkPort) : (s.modPort p f).sweep = s.sweep := rfl
@[simp] theorem State.modPort_res (s : State) (p : Port) (f : LinkPort → LinkPort) : (s.modPort p f).res = s.res := rfl
@[simp] theorem State.modPort_plant (s : State) (p : Port) (f : LinkPort → LinkPort) : (s.modPort p f).plant = s.plant := rfl
@[simp] theorem State.modPort_prot (s : State) (p : Port) (f : LinkPort → LinkPort) : (s.modPort p f).prot = s.prot := rfl
@[simp] theorem State.modPort_store (s : State) (p : Port) (f : LinkPort → LinkPort) : (s.modPort p f).store = s.store := rfl
@[simp] theorem State.modPort_pins (s : State) (p : Port) (f : LinkPort → LinkPort) : (s.modPort p f).pins = s.pins := rfl
@[simp] theorem State.modPort_free (s : State) (p : Port) (f : LinkPort → LinkPort) : (s.modPort p f).free = s.free := rfl
@[simp] theorem State.setAnswer_pending (s : State) (p : Port) (a : PortAnswer) : (s.setAnswer p a).pending = s.pending := rfl
@[simp] theorem State.setAnswer_supply (s : State) (p : Port) (a : PortAnswer) : (s.setAnswer p a).supply = s.supply := rfl
@[simp] theorem State.setAnswer_tb (s : State) (p : Port) (a : PortAnswer) : (s.setAnswer p a).tb = s.tb := rfl
@[simp] theorem State.setAnswer_inv (s : State) (p : Port) (a : PortAnswer) : (s.setAnswer p a).inv = s.inv := rfl
@[simp] theorem State.setAnswer_head (s : State) (p : Port) (a : PortAnswer) : (s.setAnswer p a).head = s.head := rfl
@[simp] theorem State.setAnswer_book (s : State) (p : Port) (a : PortAnswer) : (s.setAnswer p a).book = s.book := rfl
@[simp] theorem State.setAnswer_sweep (s : State) (p : Port) (a : PortAnswer) : (s.setAnswer p a).sweep = s.sweep := rfl
@[simp] theorem State.setAnswer_res (s : State) (p : Port) (a : PortAnswer) : (s.setAnswer p a).res = s.res := rfl
@[simp] theorem State.setAnswer_plant (s : State) (p : Port) (a : PortAnswer) : (s.setAnswer p a).plant = s.plant := rfl
@[simp] theorem State.setAnswer_prot (s : State) (p : Port) (a : PortAnswer) : (s.setAnswer p a).prot = s.prot := rfl
@[simp] theorem State.setAnswer_store (s : State) (p : Port) (a : PortAnswer) : (s.setAnswer p a).store = s.store := rfl
@[simp] theorem State.setAnswer_pins (s : State) (p : Port) (a : PortAnswer) : (s.setAnswer p a).pins = s.pins := rfl
@[simp] theorem State.setAnswer_free (s : State) (p : Port) (a : PortAnswer) : (s.setAnswer p a).free = s.free := rfl
@[simp] theorem State.forget_pending (s : State) (p : Port) : (s.forget p).pending = s.pending := rfl
@[simp] theorem State.forget_supply (s : State) (p : Port) : (s.forget p).supply = s.supply := rfl
@[simp] theorem State.forget_tb (s : State) (p : Port) : (s.forget p).tb = s.tb := rfl
@[simp] theorem State.forget_inv (s : State) (p : Port) : (s.forget p).inv = s.inv := rfl
@[simp] theorem State.forget_head (s : State) (p : Port) : (s.forget p).head = s.head := rfl
@[simp] theorem State.forget_book (s : State) (p : Port) : (s.forget p).book = s.book := rfl
@[simp] theorem State.forget_sweep (s : State) (p : Port) : (s.forget p).sweep = s.sweep := rfl
@[simp] theorem State.forget_res (s : State) (p : Port) : (s.forget p).res = s.res := rfl
@[simp] theorem State.forget_plant (s : State) (p : Port) : (s.forget p).plant = s.plant := rfl
@[simp] theorem State.forget_prot (s : State) (p : Port) : (s.forget p).prot = s.prot := rfl
@[simp] theorem State.forget_store (s : State) (p : Port) : (s.forget p).store = s.store := rfl
@[simp] theorem State.forget_pins (s : State) (p : Port) : (s.forget p).pins = s.pins := rfl
@[simp] theorem State.forget_free (s : State) (p : Port) : (s.forget p).free = s.free := rfl
@[simp] theorem State.setSlot_pending (s : State) (n : Nat) (x : Slot) : (s.setSlot n x).pending = s.pending := rfl
@[simp] theorem State.setSlot_supply (s : State) (n : Nat) (x : Slot) : (s.setSlot n x).supply = s.supply := rfl
@[simp] theorem State.setSlot_tb (s : State) (n : Nat) (x : Slot) : (s.setSlot n x).tb = s.tb := rfl
@[simp] theorem State.setSlot_inv (s : State) (n : Nat) (x : Slot) : (s.setSlot n x).inv = s.inv := rfl
@[simp] theorem State.setSlot_head (s : State) (n : Nat) (x : Slot) : (s.setSlot n x).head = s.head := rfl
@[simp] theorem State.setSlot_sweep (s : State) (n : Nat) (x : Slot) : (s.setSlot n x).sweep = s.sweep := rfl
@[simp] theorem State.setSlot_res (s : State) (n : Nat) (x : Slot) : (s.setSlot n x).res = s.res := rfl
@[simp] theorem State.setSlot_plant (s : State) (n : Nat) (x : Slot) : (s.setSlot n x).plant = s.plant := rfl
@[simp] theorem State.setSlot_prot (s : State) (n : Nat) (x : Slot) : (s.setSlot n x).prot = s.prot := rfl
@[simp] theorem State.setSlot_ports (s : State) (n : Nat) (x : Slot) : (s.setSlot n x).ports = s.ports := rfl
@[simp] theorem State.setSlot_store (s : State) (n : Nat) (x : Slot) : (s.setSlot n x).store = s.store := rfl
@[simp] theorem State.setSlot_pins (s : State) (n : Nat) (x : Slot) : (s.setSlot n x).pins = s.pins := rfl
@[simp] theorem State.setSlot_free (s : State) (n : Nat) (x : Slot) : (s.setSlot n x).free = s.free := rfl
@[simp] theorem State.writeSlot_pending (s : State) (n : Nat) (v : Vals) : (s.writeSlot n v).pending = s.pending := rfl
@[simp] theorem State.writeSlot_supply (s : State) (n : Nat) (v : Vals) : (s.writeSlot n v).supply = s.supply := rfl
@[simp] theorem State.writeSlot_tb (s : State) (n : Nat) (v : Vals) : (s.writeSlot n v).tb = s.tb := rfl
@[simp] theorem State.writeSlot_inv (s : State) (n : Nat) (v : Vals) : (s.writeSlot n v).inv = s.inv := rfl
@[simp] theorem State.writeSlot_head (s : State) (n : Nat) (v : Vals) : (s.writeSlot n v).head = s.head := rfl
@[simp] theorem State.writeSlot_sweep (s : State) (n : Nat) (v : Vals) : (s.writeSlot n v).sweep = s.sweep := rfl
@[simp] theorem State.writeSlot_res (s : State) (n : Nat) (v : Vals) : (s.writeSlot n v).res = s.res := rfl
@[simp] theorem State.writeSlot_plant (s : State) (n : Nat) (v : Vals) : (s.writeSlot n v).plant = s.plant := rfl
@[simp] theorem State.writeSlot_prot (s : State) (n : Nat) (v : Vals) : (s.writeSlot n v).prot = s.prot := rfl
@[simp] theorem State.writeSlot_ports (s : State) (n : Nat) (v : Vals) : (s.writeSlot n v).ports = s.ports := rfl
@[simp] theorem State.writeSlot_store (s : State) (n : Nat) (v : Vals) : (s.writeSlot n v).store = s.store := rfl
@[simp] theorem State.writeSlot_pins (s : State) (n : Nat) (v : Vals) : (s.writeSlot n v).pins = s.pins := rfl
@[simp] theorem State.writeSlot_free (s : State) (n : Nat) (v : Vals) : (s.writeSlot n v).free = s.free := rfl
@[simp] theorem State.setWindow_pending (s : State) (n : Fin 4) (w : Window) : (s.setWindow n w).pending = s.pending := rfl
@[simp] theorem State.setWindow_supply (s : State) (n : Fin 4) (w : Window) : (s.setWindow n w).supply = s.supply := rfl
@[simp] theorem State.setWindow_tb (s : State) (n : Fin 4) (w : Window) : (s.setWindow n w).tb = s.tb := rfl
@[simp] theorem State.setWindow_inv (s : State) (n : Fin 4) (w : Window) : (s.setWindow n w).inv = s.inv := rfl
@[simp] theorem State.setWindow_head (s : State) (n : Fin 4) (w : Window) : (s.setWindow n w).head = s.head := rfl
@[simp] theorem State.setWindow_sweep (s : State) (n : Fin 4) (w : Window) : (s.setWindow n w).sweep = s.sweep := rfl
@[simp] theorem State.setWindow_res (s : State) (n : Fin 4) (w : Window) : (s.setWindow n w).res = s.res := rfl
@[simp] theorem State.setWindow_plant (s : State) (n : Fin 4) (w : Window) : (s.setWindow n w).plant = s.plant := rfl
@[simp] theorem State.setWindow_prot (s : State) (n : Fin 4) (w : Window) : (s.setWindow n w).prot = s.prot := rfl
@[simp] theorem State.setWindow_ports (s : State) (n : Fin 4) (w : Window) : (s.setWindow n w).ports = s.ports := rfl
@[simp] theorem State.setWindow_store (s : State) (n : Fin 4) (w : Window) : (s.setWindow n w).store = s.store := rfl
@[simp] theorem State.setWindow_pins (s : State) (n : Fin 4) (w : Window) : (s.setWindow n w).pins = s.pins := rfl
@[simp] theorem State.setWindow_free (s : State) (n : Fin 4) (w : Window) : (s.setWindow n w).free = s.free := rfl
@[simp] theorem State.dropPage_pending (s : State) : (s.dropPage).pending = s.pending := rfl
@[simp] theorem State.dropPage_supply (s : State) : (s.dropPage).supply = s.supply := rfl
@[simp] theorem State.dropPage_tb (s : State) : (s.dropPage).tb = s.tb := rfl
@[simp] theorem State.dropPage_inv (s : State) : (s.dropPage).inv = s.inv := rfl
@[simp] theorem State.dropPage_head (s : State) : (s.dropPage).head = s.head := rfl
@[simp] theorem State.dropPage_sweep (s : State) : (s.dropPage).sweep = s.sweep := rfl
@[simp] theorem State.dropPage_res (s : State) : (s.dropPage).res = s.res := rfl
@[simp] theorem State.dropPage_plant (s : State) : (s.dropPage).plant = s.plant := rfl
@[simp] theorem State.dropPage_prot (s : State) : (s.dropPage).prot = s.prot := rfl
@[simp] theorem State.dropPage_ports (s : State) : (s.dropPage).ports = s.ports := rfl
@[simp] theorem State.dropPage_store (s : State) : (s.dropPage).store = s.store := rfl
@[simp] theorem State.dropPage_pins (s : State) : (s.dropPage).pins = s.pins := rfl
@[simp] theorem State.dropPage_free (s : State) : (s.dropPage).free = s.free := rfl
@[simp] theorem State.openPage_pending (s : State) (d : Nat) : (s.openPage d).pending = s.pending := rfl
@[simp] theorem State.openPage_supply (s : State) (d : Nat) : (s.openPage d).supply = s.supply := rfl
@[simp] theorem State.openPage_tb (s : State) (d : Nat) : (s.openPage d).tb = s.tb := rfl
@[simp] theorem State.openPage_inv (s : State) (d : Nat) : (s.openPage d).inv = s.inv := rfl
@[simp] theorem State.openPage_head (s : State) (d : Nat) : (s.openPage d).head = s.head := rfl
@[simp] theorem State.openPage_sweep (s : State) (d : Nat) : (s.openPage d).sweep = s.sweep := rfl
@[simp] theorem State.openPage_res (s : State) (d : Nat) : (s.openPage d).res = s.res := rfl
@[simp] theorem State.openPage_plant (s : State) (d : Nat) : (s.openPage d).plant = s.plant := rfl
@[simp] theorem State.openPage_prot (s : State) (d : Nat) : (s.openPage d).prot = s.prot := rfl
@[simp] theorem State.openPage_ports (s : State) (d : Nat) : (s.openPage d).ports = s.ports := rfl
@[simp] theorem State.openPage_store (s : State) (d : Nat) : (s.openPage d).store = s.store := rfl
@[simp] theorem State.openPage_pins (s : State) (d : Nat) : (s.openPage d).pins = s.pins := rfl
@[simp] theorem State.openPage_free (s : State) (d : Nat) : (s.openPage d).free = s.free := rfl
@[simp] theorem State.clearHits_pending (s : State) : (s.clearHits).pending = s.pending := rfl
@[simp] theorem State.clearHits_supply (s : State) : (s.clearHits).supply = s.supply := rfl
@[simp] theorem State.clearHits_tb (s : State) : (s.clearHits).tb = s.tb := rfl
@[simp] theorem State.clearHits_inv (s : State) : (s.clearHits).inv = s.inv := rfl
@[simp] theorem State.clearHits_head (s : State) : (s.clearHits).head = s.head := rfl
@[simp] theorem State.clearHits_sweep (s : State) : (s.clearHits).sweep = s.sweep := rfl
@[simp] theorem State.clearHits_res (s : State) : (s.clearHits).res = s.res := rfl
@[simp] theorem State.clearHits_plant (s : State) : (s.clearHits).plant = s.plant := rfl
@[simp] theorem State.clearHits_prot (s : State) : (s.clearHits).prot = s.prot := rfl
@[simp] theorem State.clearHits_ports (s : State) : (s.clearHits).ports = s.ports := rfl
@[simp] theorem State.clearHits_store (s : State) : (s.clearHits).store = s.store := rfl
@[simp] theorem State.clearHits_pins (s : State) : (s.clearHits).pins = s.pins := rfl
@[simp] theorem State.clearHits_free (s : State) : (s.clearHits).free = s.free := rfl
@[simp] theorem State.recomputeHeadroom_pending (s : State) : (s.recomputeHeadroom).pending = s.pending := rfl
@[simp] theorem State.recomputeHeadroom_supply (s : State) : (s.recomputeHeadroom).supply = s.supply := rfl
@[simp] theorem State.recomputeHeadroom_tb (s : State) : (s.recomputeHeadroom).tb = s.tb := rfl
@[simp] theorem State.recomputeHeadroom_inv (s : State) : (s.recomputeHeadroom).inv = s.inv := rfl
@[simp] theorem State.recomputeHeadroom_book (s : State) : (s.recomputeHeadroom).book = s.book := rfl
@[simp] theorem State.recomputeHeadroom_sweep (s : State) : (s.recomputeHeadroom).sweep = s.sweep := rfl
@[simp] theorem State.recomputeHeadroom_res (s : State) : (s.recomputeHeadroom).res = s.res := rfl
@[simp] theorem State.recomputeHeadroom_plant (s : State) : (s.recomputeHeadroom).plant = s.plant := rfl
@[simp] theorem State.recomputeHeadroom_prot (s : State) : (s.recomputeHeadroom).prot = s.prot := rfl
@[simp] theorem State.recomputeHeadroom_ports (s : State) : (s.recomputeHeadroom).ports = s.ports := rfl
@[simp] theorem State.recomputeHeadroom_store (s : State) : (s.recomputeHeadroom).store = s.store := rfl
@[simp] theorem State.recomputeHeadroom_pins (s : State) : (s.recomputeHeadroom).pins = s.pins := rfl
@[simp] theorem State.recomputeHeadroom_free (s : State) : (s.recomputeHeadroom).free = s.free := rfl
@[simp] theorem State.setCfg_pending (s : State) (c : Cfg) : (s.setCfg c).pending = s.pending := rfl
@[simp] theorem State.setCfg_supply (s : State) (c : Cfg) : (s.setCfg c).supply = s.supply := rfl
@[simp] theorem State.setCfg_tb (s : State) (c : Cfg) : (s.setCfg c).tb = s.tb := rfl
@[simp] theorem State.setCfg_inv (s : State) (c : Cfg) : (s.setCfg c).inv = s.inv := rfl
@[simp] theorem State.setCfg_head (s : State) (c : Cfg) : (s.setCfg c).head = s.head := rfl
@[simp] theorem State.setCfg_book (s : State) (c : Cfg) : (s.setCfg c).book = s.book := rfl
@[simp] theorem State.setCfg_sweep (s : State) (c : Cfg) : (s.setCfg c).sweep = s.sweep := rfl
@[simp] theorem State.setCfg_res (s : State) (c : Cfg) : (s.setCfg c).res = s.res := rfl
@[simp] theorem State.setCfg_plant (s : State) (c : Cfg) : (s.setCfg c).plant = s.plant := rfl
@[simp] theorem State.setCfg_prot (s : State) (c : Cfg) : (s.setCfg c).prot = s.prot := rfl
@[simp] theorem State.setCfg_ports (s : State) (c : Cfg) : (s.setCfg c).ports = s.ports := rfl
@[simp] theorem State.setCfg_pins (s : State) (c : Cfg) : (s.setCfg c).pins = s.pins := rfl
@[simp] theorem State.setCfg_free (s : State) (c : Cfg) : (s.setCfg c).free = s.free := rfl
@[simp] theorem State.writeOwner_pending (s : State) (t : Train) (o : Owner) : (s.writeOwner t o).pending = s.pending := rfl
@[simp] theorem State.writeOwner_supply (s : State) (t : Train) (o : Owner) : (s.writeOwner t o).supply = s.supply := rfl
@[simp] theorem State.writeOwner_tb (s : State) (t : Train) (o : Owner) : (s.writeOwner t o).tb = s.tb := rfl
@[simp] theorem State.writeOwner_inv (s : State) (t : Train) (o : Owner) : (s.writeOwner t o).inv = s.inv := rfl
@[simp] theorem State.writeOwner_head (s : State) (t : Train) (o : Owner) : (s.writeOwner t o).head = s.head := rfl
@[simp] theorem State.writeOwner_book (s : State) (t : Train) (o : Owner) : (s.writeOwner t o).book = s.book := rfl
@[simp] theorem State.writeOwner_sweep (s : State) (t : Train) (o : Owner) : (s.writeOwner t o).sweep = s.sweep := rfl
@[simp] theorem State.writeOwner_res (s : State) (t : Train) (o : Owner) : (s.writeOwner t o).res = s.res := rfl
@[simp] theorem State.writeOwner_plant (s : State) (t : Train) (o : Owner) : (s.writeOwner t o).plant = s.plant := rfl
@[simp] theorem State.writeOwner_prot (s : State) (t : Train) (o : Owner) : (s.writeOwner t o).prot = s.prot := rfl
@[simp] theorem State.writeOwner_ports (s : State) (t : Train) (o : Owner) : (s.writeOwner t o).ports = s.ports := rfl
@[simp] theorem State.writeOwner_pins (s : State) (t : Train) (o : Owner) : (s.writeOwner t o).pins = s.pins := rfl
@[simp] theorem State.writeOwner_free (s : State) (t : Train) (o : Owner) : (s.writeOwner t o).free = s.free := rfl
@[simp] theorem State.beginWrite_pending (s : State) (p : Port) : (s.beginWrite p).pending = s.pending := rfl
@[simp] theorem State.beginWrite_supply (s : State) (p : Port) : (s.beginWrite p).supply = s.supply := rfl
@[simp] theorem State.beginWrite_tb (s : State) (p : Port) : (s.beginWrite p).tb = s.tb := rfl
@[simp] theorem State.beginWrite_inv (s : State) (p : Port) : (s.beginWrite p).inv = s.inv := rfl
@[simp] theorem State.beginWrite_head (s : State) (p : Port) : (s.beginWrite p).head = s.head := rfl
@[simp] theorem State.beginWrite_book (s : State) (p : Port) : (s.beginWrite p).book = s.book := rfl
@[simp] theorem State.beginWrite_sweep (s : State) (p : Port) : (s.beginWrite p).sweep = s.sweep := rfl
@[simp] theorem State.beginWrite_res (s : State) (p : Port) : (s.beginWrite p).res = s.res := rfl
@[simp] theorem State.beginWrite_plant (s : State) (p : Port) : (s.beginWrite p).plant = s.plant := rfl
@[simp] theorem State.beginWrite_prot (s : State) (p : Port) : (s.beginWrite p).prot = s.prot := rfl
@[simp] theorem State.beginWrite_ports (s : State) (p : Port) : (s.beginWrite p).ports = s.ports := rfl
@[simp] theorem State.beginWrite_pins (s : State) (p : Port) : (s.beginWrite p).pins = s.pins := rfl
@[simp] theorem State.beginWrite_free (s : State) (p : Port) : (s.beginWrite p).free = s.free := rfl
@[simp] theorem State.trim_pending (s : State) (n : Nat) : (s.trim n).pending = s.pending := rfl
@[simp] theorem State.trim_supply (s : State) (n : Nat) : (s.trim n).supply = s.supply := rfl
@[simp] theorem State.trim_inv (s : State) (n : Nat) : (s.trim n).inv = s.inv := rfl
@[simp] theorem State.trim_head (s : State) (n : Nat) : (s.trim n).head = s.head := rfl
@[simp] theorem State.trim_book (s : State) (n : Nat) : (s.trim n).book = s.book := rfl
@[simp] theorem State.trim_sweep (s : State) (n : Nat) : (s.trim n).sweep = s.sweep := rfl
@[simp] theorem State.trim_res (s : State) (n : Nat) : (s.trim n).res = s.res := rfl
@[simp] theorem State.trim_plant (s : State) (n : Nat) : (s.trim n).plant = s.plant := rfl
@[simp] theorem State.trim_prot (s : State) (n : Nat) : (s.trim n).prot = s.prot := rfl
@[simp] theorem State.trim_ports (s : State) (n : Nat) : (s.trim n).ports = s.ports := rfl
@[simp] theorem State.trim_store (s : State) (n : Nat) : (s.trim n).store = s.store := rfl
@[simp] theorem State.trim_pins (s : State) (n : Nat) : (s.trim n).pins = s.pins := rfl
@[simp] theorem State.trim_free (s : State) (n : Nat) : (s.trim n).free = s.free := rfl
@[simp] theorem State.sweepStart_pending (s : State) : (s.sweepStart).pending = s.pending := rfl
@[simp] theorem State.sweepStart_supply (s : State) : (s.sweepStart).supply = s.supply := rfl
@[simp] theorem State.sweepStart_tb (s : State) : (s.sweepStart).tb = s.tb := rfl
@[simp] theorem State.sweepStart_inv (s : State) : (s.sweepStart).inv = s.inv := rfl
@[simp] theorem State.sweepStart_head (s : State) : (s.sweepStart).head = s.head := rfl
@[simp] theorem State.sweepStart_book (s : State) : (s.sweepStart).book = s.book := rfl
@[simp] theorem State.sweepStart_res (s : State) : (s.sweepStart).res = s.res := rfl
@[simp] theorem State.sweepStart_plant (s : State) : (s.sweepStart).plant = s.plant := rfl
@[simp] theorem State.sweepStart_prot (s : State) : (s.sweepStart).prot = s.prot := rfl
@[simp] theorem State.sweepStart_ports (s : State) : (s.sweepStart).ports = s.ports := rfl
@[simp] theorem State.sweepStart_store (s : State) : (s.sweepStart).store = s.store := rfl
@[simp] theorem State.sweepStart_pins (s : State) : (s.sweepStart).pins = s.pins := rfl
@[simp] theorem State.sweepStart_free (s : State) : (s.sweepStart).free = s.free := rfl
@[simp] theorem State.clipHeat_pending (s : State) : (s.clipHeat).pending = s.pending := rfl
@[simp] theorem State.clipHeat_supply (s : State) : (s.clipHeat).supply = s.supply := rfl
@[simp] theorem State.clipHeat_tb (s : State) : (s.clipHeat).tb = s.tb := rfl
@[simp] theorem State.clipHeat_head (s : State) : (s.clipHeat).head = s.head := rfl
@[simp] theorem State.clipHeat_book (s : State) : (s.clipHeat).book = s.book := rfl
@[simp] theorem State.clipHeat_sweep (s : State) : (s.clipHeat).sweep = s.sweep := rfl
@[simp] theorem State.clipHeat_res (s : State) : (s.clipHeat).res = s.res := rfl
@[simp] theorem State.clipHeat_plant (s : State) : (s.clipHeat).plant = s.plant := rfl
@[simp] theorem State.clipHeat_prot (s : State) : (s.clipHeat).prot = s.prot := rfl
@[simp] theorem State.clipHeat_ports (s : State) : (s.clipHeat).ports = s.ports := rfl
@[simp] theorem State.clipHeat_store (s : State) : (s.clipHeat).store = s.store := rfl
@[simp] theorem State.clipHeat_pins (s : State) : (s.clipHeat).pins = s.pins := rfl
@[simp] theorem State.clipHeat_free (s : State) : (s.clipHeat).free = s.free := rfl
@[simp] theorem State.standingLoss_pending (s : State) : (s.standingLoss).pending = s.pending := rfl
@[simp] theorem State.standingLoss_supply (s : State) : (s.standingLoss).supply = s.supply := rfl
@[simp] theorem State.standingLoss_tb (s : State) : (s.standingLoss).tb = s.tb := rfl
@[simp] theorem State.standingLoss_book (s : State) : (s.standingLoss).book = s.book := rfl
@[simp] theorem State.standingLoss_sweep (s : State) : (s.standingLoss).sweep = s.sweep := rfl
@[simp] theorem State.standingLoss_res (s : State) : (s.standingLoss).res = s.res := rfl
@[simp] theorem State.standingLoss_plant (s : State) : (s.standingLoss).plant = s.plant := rfl
@[simp] theorem State.standingLoss_prot (s : State) : (s.standingLoss).prot = s.prot := rfl
@[simp] theorem State.standingLoss_ports (s : State) : (s.standingLoss).ports = s.ports := rfl
@[simp] theorem State.standingLoss_store (s : State) : (s.standingLoss).store = s.store := rfl
@[simp] theorem State.standingLoss_pins (s : State) : (s.standingLoss).pins = s.pins := rfl
@[simp] theorem State.standingLoss_free (s : State) : (s.standingLoss).free = s.free := rfl
@[simp] theorem State.tickTimers_pending (s : State) : (s.tickTimers).pending = s.pending := by
  simp only [State.tickTimers]
@[simp] theorem State.tickTimers_supply (s : State) : (s.tickTimers).supply = s.supply := by
  simp only [State.tickTimers]
@[simp] theorem State.tickTimers_tb (s : State) : (s.tickTimers).tb = s.tb := by
  simp only [State.tickTimers]
@[simp] theorem State.tickTimers_inv (s : State) : (s.tickTimers).inv = s.inv := by
  simp only [State.tickTimers]
@[simp] theorem State.tickTimers_head (s : State) : (s.tickTimers).head = s.head := by
  simp only [State.tickTimers]
@[simp] theorem State.tickTimers_book (s : State) : (s.tickTimers).book = s.book := by
  simp only [State.tickTimers]
@[simp] theorem State.tickTimers_sweep (s : State) : (s.tickTimers).sweep = s.sweep := by
  simp only [State.tickTimers]
@[simp] theorem State.tickTimers_res (s : State) : (s.tickTimers).res = s.res := by
  simp only [State.tickTimers]
@[simp] theorem State.tickTimers_ports (s : State) : (s.tickTimers).ports = s.ports := by
  simp only [State.tickTimers]
@[simp] theorem State.tickTimers_store (s : State) : (s.tickTimers).store = s.store := by
  simp only [State.tickTimers]
@[simp] theorem State.tickTimers_pins (s : State) : (s.tickTimers).pins = s.pins := by
  simp only [State.tickTimers]
@[simp] theorem State.tickTimers_free (s : State) : (s.tickTimers).free = s.free := by
  simp only [State.tickTimers]
@[simp] theorem State.settle_pending (s : State) : (s.settle).pending = s.pending := rfl
@[simp] theorem State.settle_supply (s : State) : (s.settle).supply = s.supply := rfl
@[simp] theorem State.settle_tb (s : State) : (s.settle).tb = s.tb := rfl
@[simp] theorem State.settle_inv (s : State) : (s.settle).inv = s.inv := rfl
@[simp] theorem State.settle_book (s : State) : (s.settle).book = s.book := rfl
@[simp] theorem State.settle_sweep (s : State) : (s.settle).sweep = s.sweep := rfl
@[simp] theorem State.settle_res (s : State) : (s.settle).res = s.res := rfl
@[simp] theorem State.settle_ports (s : State) : (s.settle).ports = s.ports := rfl
@[simp] theorem State.settle_store (s : State) : (s.settle).store = s.store := rfl
@[simp] theorem State.settle_free (s : State) : (s.settle).free = s.free := rfl
@[simp] theorem State.finish_pending (s : State) : (s.finish).pending = s.pending := rfl
@[simp] theorem State.finish_supply (s : State) : (s.finish).supply = s.supply := rfl
@[simp] theorem State.finish_tb (s : State) : (s.finish).tb = s.tb := rfl
@[simp] theorem State.finish_inv (s : State) : (s.finish).inv = s.inv := rfl
@[simp] theorem State.finish_book (s : State) : (s.finish).book = s.book := rfl
@[simp] theorem State.finish_sweep (s : State) : (s.finish).sweep = s.sweep := rfl
@[simp] theorem State.finish_res (s : State) : (s.finish).res = s.res := rfl
@[simp] theorem State.finish_ports (s : State) : (s.finish).ports = s.ports := rfl
@[simp] theorem State.finish_store (s : State) : (s.finish).store = s.store := rfl
@[simp] theorem State.finish_free (s : State) : (s.finish).free = s.free := rfl
@[simp] theorem State.settle_lines (s : State) : (s.settle).prot.lines = s.prot.lines := rfl
@[simp] theorem State.settle_mode (s : State) : (s.settle).prot.mode = s.prot.mode := rfl
@[simp] theorem State.settle_chargeInhibit (s : State) : (s.settle).prot.chargeInhibit = s.prot.chargeInhibit := rfl
@[simp] theorem State.settle_dischargeInhibit (s : State) : (s.settle).prot.dischargeInhibit = s.prot.dischargeInhibit := rfl
@[simp] theorem State.settle_isolated (s : State) : (s.settle).prot.isolated = s.prot.isolated := rfl
@[simp] theorem State.settle_holdMask (s : State) : (s.settle).prot.holdMask = s.prot.holdMask := rfl
@[simp] theorem State.settle_timers (s : State) : (s.settle).prot.timers = s.prot.timers := rfl
@[simp] theorem State.finish_lines (s : State) : (s.finish).prot.lines = s.prot.lines := rfl
@[simp] theorem State.finish_mode (s : State) : (s.finish).prot.mode = s.prot.mode := rfl
@[simp] theorem State.finish_chargeInhibit (s : State) : (s.finish).prot.chargeInhibit = s.prot.chargeInhibit := rfl
@[simp] theorem State.finish_dischargeInhibit (s : State) : (s.finish).prot.dischargeInhibit = s.prot.dischargeInhibit := rfl
@[simp] theorem State.finish_isolated (s : State) : (s.finish).prot.isolated = s.prot.isolated := rfl
@[simp] theorem State.finish_holdMask (s : State) : (s.finish).prot.holdMask = s.prot.holdMask := rfl
@[simp] theorem State.finish_timers (s : State) : (s.finish).prot.timers = s.prot.timers := rfl
@[simp] theorem State.setMode_lines (s : State) (m : PlantMode) : (s.setMode m).prot.lines = s.prot.lines := rfl
@[simp] theorem State.setMode_chargeInhibit (s : State) (m : PlantMode) : (s.setMode m).prot.chargeInhibit = s.prot.chargeInhibit := rfl
@[simp] theorem State.setMode_dischargeInhibit (s : State) (m : PlantMode) : (s.setMode m).prot.dischargeInhibit = s.prot.dischargeInhibit := rfl
@[simp] theorem State.setMode_isolated (s : State) (m : PlantMode) : (s.setMode m).prot.isolated = s.prot.isolated := rfl
@[simp] theorem State.setMode_holdMask (s : State) (m : PlantMode) : (s.setMode m).prot.holdMask = s.prot.holdMask := rfl
@[simp] theorem State.setMode_latch (s : State) (m : PlantMode) : (s.setMode m).prot.latch = s.prot.latch := rfl
@[simp] theorem State.setMode_timers (s : State) (m : PlantMode) : (s.setMode m).prot.timers = s.prot.timers := rfl
@[simp] theorem State.setTimer_lines (s : State) (p : Port) (t : LinkTimer) : (s.setTimer p t).prot.lines = s.prot.lines := rfl
@[simp] theorem State.setTimer_mode (s : State) (p : Port) (t : LinkTimer) : (s.setTimer p t).prot.mode = s.prot.mode := rfl
@[simp] theorem State.setTimer_chargeInhibit (s : State) (p : Port) (t : LinkTimer) : (s.setTimer p t).prot.chargeInhibit = s.prot.chargeInhibit := rfl
@[simp] theorem State.setTimer_dischargeInhibit (s : State) (p : Port) (t : LinkTimer) : (s.setTimer p t).prot.dischargeInhibit = s.prot.dischargeInhibit := rfl
@[simp] theorem State.setTimer_isolated (s : State) (p : Port) (t : LinkTimer) : (s.setTimer p t).prot.isolated = s.prot.isolated := rfl
@[simp] theorem State.setTimer_holdMask (s : State) (p : Port) (t : LinkTimer) : (s.setTimer p t).prot.holdMask = s.prot.holdMask := rfl
@[simp] theorem State.setTimer_latch (s : State) (p : Port) (t : LinkTimer) : (s.setTimer p t).prot.latch = s.prot.latch := rfl
@[simp] theorem State.restartCount_mode (s : State) (l : Line) : (s.restartCount l).prot.mode = s.prot.mode := rfl
@[simp] theorem State.restartCount_chargeInhibit (s : State) (l : Line) : (s.restartCount l).prot.chargeInhibit = s.prot.chargeInhibit := rfl
@[simp] theorem State.restartCount_dischargeInhibit (s : State) (l : Line) : (s.restartCount l).prot.dischargeInhibit = s.prot.dischargeInhibit := rfl
@[simp] theorem State.restartCount_isolated (s : State) (l : Line) : (s.restartCount l).prot.isolated = s.prot.isolated := rfl
@[simp] theorem State.restartCount_holdMask (s : State) (l : Line) : (s.restartCount l).prot.holdMask = s.prot.holdMask := rfl
@[simp] theorem State.restartCount_latch (s : State) (l : Line) : (s.restartCount l).prot.latch = s.prot.latch := rfl
@[simp] theorem State.restartCount_timers (s : State) (l : Line) : (s.restartCount l).prot.timers = s.prot.timers := rfl
@[simp] theorem State.tickTimers_lines (s : State) : (s.tickTimers).prot.lines = s.prot.lines := by
  simp only [State.tickTimers]
@[simp] theorem State.tickTimers_mode (s : State) : (s.tickTimers).prot.mode = s.prot.mode := by
  simp only [State.tickTimers]
@[simp] theorem State.tickTimers_chargeInhibit (s : State) : (s.tickTimers).prot.chargeInhibit = s.prot.chargeInhibit := by
  simp only [State.tickTimers]
@[simp] theorem State.tickTimers_dischargeInhibit (s : State) : (s.tickTimers).prot.dischargeInhibit = s.prot.dischargeInhibit := by
  simp only [State.tickTimers]
@[simp] theorem State.tickTimers_isolated (s : State) : (s.tickTimers).prot.isolated = s.prot.isolated := by
  simp only [State.tickTimers]
@[simp] theorem State.tickTimers_holdMask (s : State) : (s.tickTimers).prot.holdMask = s.prot.holdMask := by
  simp only [State.tickTimers]
@[simp] theorem State.tickTimers_latch (s : State) : (s.tickTimers).prot.latch = s.prot.latch := by
  simp only [State.tickTimers]
@[simp] theorem State.settle_d (s : State) : (s.settle).head.d = s.head.d := rfl
@[simp] theorem State.settle_c (s : State) : (s.settle).head.c = s.head.c := rfl
@[simp] theorem State.settle_eAirD (s : State) : (s.settle).head.eAirD = s.head.eAirD := rfl
@[simp] theorem State.settle_eHeatD (s : State) : (s.settle).head.eHeatD = s.head.eHeatD := rfl
@[simp] theorem State.settle_dRaw (s : State) : (s.settle).head.dRaw = s.head.dRaw := rfl
@[simp] theorem State.settle_eAirC (s : State) : (s.settle).head.eAirC = s.head.eAirC := rfl
@[simp] theorem State.settle_eHeatC (s : State) : (s.settle).head.eHeatC = s.head.eHeatC := rfl
@[simp] theorem State.settle_cRaw (s : State) : (s.settle).head.cRaw = s.head.cRaw := rfl
@[simp] theorem State.finish_d (s : State) : (s.finish).head.d = s.head.d := rfl
@[simp] theorem State.finish_c (s : State) : (s.finish).head.c = s.head.c := rfl
@[simp] theorem State.finish_eAirD (s : State) : (s.finish).head.eAirD = s.head.eAirD := rfl
@[simp] theorem State.finish_eHeatD (s : State) : (s.finish).head.eHeatD = s.head.eHeatD := rfl
@[simp] theorem State.finish_dRaw (s : State) : (s.finish).head.dRaw = s.head.dRaw := rfl
@[simp] theorem State.finish_eAirC (s : State) : (s.finish).head.eAirC = s.head.eAirC := rfl
@[simp] theorem State.finish_eHeatC (s : State) : (s.finish).head.eHeatC = s.head.eHeatC := rfl
@[simp] theorem State.finish_cRaw (s : State) : (s.finish).head.cRaw = s.head.cRaw := rfl

@[simp] theorem State.withPending_pending (s : State) (l : List Instr) : (s.withPending l).pending = l := rfl
@[simp] theorem State.setMode_mode (s : State) (m : PlantMode) : (s.setMode m).prot.mode = m := rfl
@[simp] theorem State.setTimer_timers (s : State) (p : Port) (t : LinkTimer) :
    (s.setTimer p t).prot.timers = s.prot.timers.set p t := rfl
@[simp] theorem State.modPort_ports (s : State) (p : Port) (f : LinkPort → LinkPort) :
    (s.modPort p f).ports = s.ports.set p (f (s.ports.get p)) := rfl
@[simp] theorem State.setAnswer_ports (s : State) (p : Port) (a : PortAnswer) :
    (s.setAnswer p a).ports = s.ports.set p { s.ports.get p with answer := a } := rfl
@[simp] theorem State.onPlant_plant (s : State) (f : Env → Plant → Plant) : (s.onPlant f).plant = f s.env s.plant := rfl
@[simp] theorem State.setCfg_cfg (s : State) (c : Cfg) : (s.setCfg c).store.cfg = c := rfl
@[simp] theorem State.trim_tb (s : State) (n : Nat) : (s.trim n).tb = { s.tb with second := n } := rfl
@[simp] theorem State.dropPage_page (s : State) : (s.dropPage).book.page = none := rfl
@[simp] theorem State.dropPage_slots (s : State) : (s.dropPage).book.slots = s.book.slots := rfl
@[simp] theorem State.dropPage_windows (s : State) : (s.dropPage).book.windows = s.book.windows := rfl
@[simp] theorem State.setSlot_page (s : State) (n : Nat) (x : Slot) : (s.setSlot n x).book.page = s.book.page := rfl
@[simp] theorem State.setSlot_windows (s : State) (n : Nat) (x : Slot) :
    (s.setSlot n x).book.windows = s.book.windows := rfl
@[simp] theorem State.sweepStart_running (s : State) : (s.sweepStart).sweep.running = s.sweep.running := rfl
@[simp] theorem State.sweepStart_cycles (s : State) : (s.sweepStart).sweep.cycles = s.sweep.cycles := rfl
@[simp] theorem State.sweepStart_base (s : State) : (s.sweepStart).sweep.base = s.tb.current := rfl
@[simp] theorem State.sweepStart_pointer (s : State) : (s.sweepStart).sweep.pointer = 0 := rfl
@[simp] theorem State.settle_pins (s : State) : (s.settle).pins =
    ⟨s.formLatch, s.prot.mode == .trip, .of fun q => (s.plant.causes.get q).attn⟩ := rfl
@[simp] theorem State.settle_latch_eq (s : State) : (s.settle).prot.latch = s.formLatch := rfl
@[simp] theorem State.settle_plant_eq (s : State) :
    (s.settle).plant = { s.plant with placed := s.plant.indication s.env } := rfl
@[simp] theorem State.finish_plant_eq (s : State) :
    (s.finish).plant = { s.dispatch.plant with placed := s.dispatch.plant.indication s.dispatch.env } := rfl

end Sys2Proof.Machine
end

