-- ==== Sys2Proof/Laws/Links.lean ====
section
/-! SUPPORT. What receiving a frame and replying to it do (R163, R166, R169): each once, for every row of the catalogue. -/

namespace Sys2Proof.Machine

/-! ## Receiving and replying: the fields that stay -/

@[simp] theorem State.reloadTimer_pending (s : State) (p : Port) : (s.reloadTimer p).pending = s.pending := by
  unfold State.reloadTimer; split <;> rfl
@[simp] theorem State.reloadTimer_supply (s : State) (p : Port) : (s.reloadTimer p).supply = s.supply := by
  unfold State.reloadTimer; split <;> rfl
@[simp] theorem State.reloadTimer_tb (s : State) (p : Port) : (s.reloadTimer p).tb = s.tb := by
  unfold State.reloadTimer; split <;> rfl
@[simp] theorem State.reloadTimer_inv (s : State) (p : Port) : (s.reloadTimer p).inv = s.inv := by
  unfold State.reloadTimer; split <;> rfl
@[simp] theorem State.reloadTimer_head (s : State) (p : Port) : (s.reloadTimer p).head = s.head := by
  unfold State.reloadTimer; split <;> rfl
@[simp] theorem State.reloadTimer_book (s : State) (p : Port) : (s.reloadTimer p).book = s.book := by
  unfold State.reloadTimer; split <;> rfl
@[simp] theorem State.reloadTimer_sweep (s : State) (p : Port) : (s.reloadTimer p).sweep = s.sweep := by
  unfold State.reloadTimer; split <;> rfl
@[simp] theorem State.reloadTimer_res (s : State) (p : Port) : (s.reloadTimer p).res = s.res := by
  unfold State.reloadTimer; split <;> rfl
@[simp] theorem State.reloadTimer_store (s : State) (p : Port) : (s.reloadTimer p).store = s.store := by
  unfold State.reloadTimer; split <;> rfl
@[simp] theorem State.reloadTimer_pins (s : State) (p : Port) : (s.reloadTimer p).pins = s.pins := by
  unfold State.reloadTimer; split <;> rfl
@[simp] theorem State.reloadTimer_free (s : State) (p : Port) : (s.reloadTimer p).free = s.free := by
  unfold State.reloadTimer; split <;> rfl
@[simp] theorem State.reloadTimer_ports (s : State) (p : Port) : (s.reloadTimer p).ports = s.ports := by
  unfold State.reloadTimer; split <;> rfl
@[simp] theorem State.reloadTimer_prot_lines (s : State) (p : Port) : (s.reloadTimer p).prot.lines = s.prot.lines := by
  unfold State.reloadTimer; split <;> rfl
@[simp] theorem State.reloadTimer_prot_mode (s : State) (p : Port) : (s.reloadTimer p).prot.mode = s.prot.mode := by
  unfold State.reloadTimer; split <;> rfl
@[simp] theorem State.reloadTimer_prot_chargeInhibit (s : State) (p : Port) : (s.reloadTimer p).prot.chargeInhibit = s.prot.chargeInhibit := by
  unfold State.reloadTimer; split <;> rfl
@[simp] theorem State.reloadTimer_prot_dischargeInhibit (s : State) (p : Port) : (s.reloadTimer p).prot.dischargeInhibit = s.prot.dischargeInhibit := by
  unfold State.reloadTimer; split <;> rfl
@[simp] theorem State.reloadTimer_prot_isolated (s : State) (p : Port) : (s.reloadTimer p).prot.isolated = s.prot.isolated := by
  unfold State.reloadTimer; split <;> rfl
@[simp] theorem State.reloadTimer_prot_holdMask (s : State) (p : Port) : (s.reloadTimer p).prot.holdMask = s.prot.holdMask := by
  unfold State.reloadTimer; split <;> rfl
@[simp] theorem State.reloadTimer_prot_latch (s : State) (p : Port) : (s.reloadTimer p).prot.latch = s.prot.latch := by
  unfold State.reloadTimer; split <;> rfl
@[simp] theorem State.reloadTimer_timers (s : State) (p : Port) : (s.reloadTimer p).prot.timers =
    s.prot.timers.set p (.running (s.store.cfg.linkLength.get p)) := by
  unfold State.reloadTimer; split <;> rfl
@[simp] theorem State.received_pending (s : State) (p : Port) : (s.received p).pending = s.pending := by
  simp [State.received]
@[simp] theorem State.received_supply (s : State) (p : Port) : (s.received p).supply = s.supply := by
  simp [State.received]
@[simp] theorem State.received_tb (s : State) (p : Port) : (s.received p).tb = s.tb := by
  simp [State.received]
@[simp] theorem State.received_inv (s : State) (p : Port) : (s.received p).inv = s.inv := by
  simp [State.received]
@[simp] theorem State.received_head (s : State) (p : Port) : (s.received p).head = s.head := by
  simp [State.received]
@[simp] theorem State.received_book (s : State) (p : Port) : (s.received p).book = s.book := by
  simp [State.received]
@[simp] theorem State.received_sweep (s : State) (p : Port) : (s.received p).sweep = s.sweep := by
  simp [State.received]
@[simp] theorem State.received_res (s : State) (p : Port) : (s.received p).res = s.res := by
  simp [State.received]
@[simp] theorem State.received_store (s : State) (p : Port) : (s.received p).store = s.store := by
  simp [State.received]
@[simp] theorem State.received_pins (s : State) (p : Port) : (s.received p).pins = s.pins := by
  simp [State.received]
@[simp] theorem State.received_free (s : State) (p : Port) : (s.received p).free = s.free := by
  simp [State.received]
@[simp] theorem State.received_prot_lines (s : State) (p : Port) : (s.received p).prot.lines = s.prot.lines := by
  simp [State.received]
@[simp] theorem State.received_prot_mode (s : State) (p : Port) : (s.received p).prot.mode = s.prot.mode := by
  simp [State.received]
@[simp] theorem State.received_prot_chargeInhibit (s : State) (p : Port) : (s.received p).prot.chargeInhibit = s.prot.chargeInhibit := by
  simp [State.received]
@[simp] theorem State.received_prot_dischargeInhibit (s : State) (p : Port) : (s.received p).prot.dischargeInhibit = s.prot.dischargeInhibit := by
  simp [State.received]
@[simp] theorem State.received_prot_isolated (s : State) (p : Port) : (s.received p).prot.isolated = s.prot.isolated := by
  simp [State.received]
@[simp] theorem State.received_prot_holdMask (s : State) (p : Port) : (s.received p).prot.holdMask = s.prot.holdMask := by
  simp [State.received]
@[simp] theorem State.received_prot_latch (s : State) (p : Port) : (s.received p).prot.latch = s.prot.latch := by
  simp [State.received]
@[simp] theorem State.received_timers (s : State) (p : Port) : (s.received p).prot.timers =
    s.prot.timers.set p (.running (s.store.cfg.linkLength.get p)) := by
  simp [State.received]
/-- R163, R144: receiving a frame marks a recovery and runs no pass. -/
theorem State.received_plant (s : State) (p : Port) :
    (s.received p).plant = { s.plant with due := s.plant.due || s.prot.timers.get p == .expired } := by
  unfold State.received State.reloadTimer
  have h : (s.modPort p LinkPort.frameEnd).prot = s.prot := rfl
  rw [h]
  by_cases e : s.prot.timers.get p = .expired
  · simp [e, Plant.event, State.modPort, State.setTimer]
  · simp [e, beq_eq_false_iff_ne.mpr e, State.modPort, State.setTimer]
@[simp] theorem State.received_ports (s : State) (p : Port) :
    (s.received p).ports = s.ports.set p (s.ports.get p).frameEnd := by
  simp [State.received]
@[simp] theorem State.reply_pending (code : Byte) (f : Frame) (r : Reply) : (State.reply code f r).pending = r.state.pending := rfl
@[simp] theorem State.reply_supply (code : Byte) (f : Frame) (r : Reply) : (State.reply code f r).supply = r.state.supply := rfl
@[simp] theorem State.reply_tb (code : Byte) (f : Frame) (r : Reply) : (State.reply code f r).tb = r.state.tb := rfl
@[simp] theorem State.reply_inv (code : Byte) (f : Frame) (r : Reply) : (State.reply code f r).inv = r.state.inv := rfl
@[simp] theorem State.reply_book (code : Byte) (f : Frame) (r : Reply) : (State.reply code f r).book = r.state.book := rfl
@[simp] theorem State.reply_sweep (code : Byte) (f : Frame) (r : Reply) : (State.reply code f r).sweep = r.state.sweep := rfl
@[simp] theorem State.reply_res (code : Byte) (f : Frame) (r : Reply) : (State.reply code f r).res = r.state.res := rfl
@[simp] theorem State.reply_store (code : Byte) (f : Frame) (r : Reply) : (State.reply code f r).store = r.state.store := rfl
@[simp] theorem State.reply_free (code : Byte) (f : Frame) (r : Reply) : (State.reply code f r).free = r.state.free := rfl
@[simp] theorem State.reply_prot_lines (code : Byte) (f : Frame) (r : Reply) :
    (State.reply code f r).prot.lines = r.state.prot.lines := rfl
@[simp] theorem State.reply_prot_mode (code : Byte) (f : Frame) (r : Reply) :
    (State.reply code f r).prot.mode = r.state.prot.mode := rfl
@[simp] theorem State.reply_prot_chargeInhibit (code : Byte) (f : Frame) (r : Reply) :
    (State.reply code f r).prot.chargeInhibit = r.state.prot.chargeInhibit := rfl
@[simp] theorem State.reply_prot_dischargeInhibit (code : Byte) (f : Frame) (r : Reply) :
    (State.reply code f r).prot.dischargeInhibit = r.state.prot.dischargeInhibit := rfl
@[simp] theorem State.reply_prot_isolated (code : Byte) (f : Frame) (r : Reply) :
    (State.reply code f r).prot.isolated = r.state.prot.isolated := rfl
@[simp] theorem State.reply_prot_holdMask (code : Byte) (f : Frame) (r : Reply) :
    (State.reply code f r).prot.holdMask = r.state.prot.holdMask := rfl
@[simp] theorem State.reply_prot_timers (code : Byte) (f : Frame) (r : Reply) :
    (State.reply code f r).prot.timers = r.state.prot.timers := rfl
@[simp] theorem State.reply_head_d (code : Byte) (f : Frame) (r : Reply) :
    (State.reply code f r).head.d = r.state.head.d := rfl
@[simp] theorem State.reply_head_c (code : Byte) (f : Frame) (r : Reply) :
    (State.reply code f r).head.c = r.state.head.c := rfl
@[simp] theorem State.reply_head_eAirD (code : Byte) (f : Frame) (r : Reply) :
    (State.reply code f r).head.eAirD = r.state.head.eAirD := rfl
@[simp] theorem State.reply_head_eHeatD (code : Byte) (f : Frame) (r : Reply) :
    (State.reply code f r).head.eHeatD = r.state.head.eHeatD := rfl
@[simp] theorem State.reply_head_dRaw (code : Byte) (f : Frame) (r : Reply) :
    (State.reply code f r).head.dRaw = r.state.head.dRaw := rfl
@[simp] theorem State.reply_head_eAirC (code : Byte) (f : Frame) (r : Reply) :
    (State.reply code f r).head.eAirC = r.state.head.eAirC := rfl
@[simp] theorem State.reply_head_eHeatC (code : Byte) (f : Frame) (r : Reply) :
    (State.reply code f r).head.eHeatC = r.state.head.eHeatC := rfl
@[simp] theorem State.reply_head_cRaw (code : Byte) (f : Frame) (r : Reply) :
    (State.reply code f r).head.cRaw = r.state.head.cRaw := rfl
@[simp] theorem State.reply_pins (code : Byte) (f : Frame) (r : Reply) :
    (State.reply code f r).pins = r.state.finish.pins := rfl
@[simp] theorem State.reply_plant (code : Byte) (f : Frame) (r : Reply) :
    (State.reply code f r).plant = r.state.finish.plant := rfl
@[simp] theorem State.reply_head (code : Byte) (f : Frame) (r : Reply) :
    (State.reply code f r).head = r.state.finish.head := rfl
@[simp] theorem State.reply_prot (code : Byte) (f : Frame) (r : Reply) :
    (State.reply code f r).prot = r.state.finish.prot := rfl

/-! ## Sizes -/

theorem readFields_length : ∀ (l : List Field) (bs : List Byte) (vs : List Int), readFields l bs = some vs →
    bs.length = (l.map Field.width).sum
  | [], [], _, _ => rfl
  | [], _ :: _, _, h => by simp [readFields] at h
  | f :: fs, bs, vs, h => by
    unfold readFields at h
    split at h
    · cases h
    · split at h
      · rename_i hlen vs' hr
        have := readFields_length fs (bs.drop f.width) vs' hr
        simp only [List.length_drop] at this
        simp only [List.map_cons, List.sum_cons]
        omega
      · cases h

theorem readFields_nil (bs : List Byte) (vs : List Int) : readFields [] bs = some vs ↔ bs = [] ∧ vs = [] := by
  cases bs <;> simp [readFields, eq_comm]

/-! ## Serving a frame -/

/-- A frame that is accepted is taken: the request's own part acts on the state in which the frame has been received. -/
theorem State.serve_accepted {s : State} {code : Byte} {f : Frame} (take : State → Reply) (h : s.accepts code f) :
    s.serve code f take = State.reply code f (take (s.received f.port)) := by
  obtain ⟨hs, ha, hm, hl⟩ := h
  have hd : decide (120 < f.payload.length) = false := by simp; omega
  simp [State.serve, hs, ha, hm, PortAnswer.outstanding, hd]

/-- A request of a row of the catalogue, accepted, permitted and of the right length: the row's body acts. -/
theorem State.request_taken {s : State} {r : RequestRow} {f : Frame} {vs : List Int} (h : s.accepts r.code f)
    (hp : r.permitted f.port = true) (hr : readFields r.format f.payload = some vs) :
    s.request r f = State.reply r.code f (r.body f.port vs (s.received f.port)) := by
  simp [State.request, State.serve_accepted _ h, RequestRow.take, hp, hr]

/-- A refusal without payload leaves what receiving the frame leaves, and answers. -/
theorem State.reply_refuse (s : State) (code : Byte) (f : Frame) (st : Status) :
    State.reply code f (refuse st (s.received f.port)) = s.repliesOnly code f st [] := rfl

/-- A request that changes nothing answers with fields of the state it leaves. -/
theorem State.reply_taken (s : State) (code : Byte) (f : Frame) (st : Status) (l : State → Fields) :
    State.reply code f (taken (s.received f.port) st l) = s.repliesOnly code f st (l (s.heard f.port)) := rfl

@[simp] theorem refuse_state (st : Status) (s : State) : (refuse st s).state = s := rfl
@[simp] theorem taken_state (s : State) (st : Status) (l : State → Fields) : (taken s st l).state = s := rfl
@[simp] theorem taken_status (s : State) (st : Status) (l : State → Fields) : (taken s st l).status = st := rfl
@[simp] theorem taken_fields (s : State) (st : Status) (l : State → Fields) : (taken s st l).fields = l := rfl

/-- The answer of a reply that does not wait. -/
theorem State.reply_answered {code : Byte} {f : Frame} {r : Reply} (h : r.deferred = false) :
    (State.reply code f r).answered code f r.status (r.fields r.state.finish) := by
  simp [State.answered, State.reply, h, State.port, State.formAnswer, State.causes]

theorem State.taken_answered (code : Byte) (f : Frame) (s : State) (st : Status) (l : State → Fields) :
    (State.reply code f (taken s st l)).answered code f st (l s.finish) := State.reply_answered rfl

/-- A reply changes no other port. -/
theorem State.reply_otherPort (code : Byte) (f : Frame) (r : Reply) (q : Port) (h : q ≠ f.port) :
    (State.reply code f r).port q = r.state.port q := by
  simp only [State.port, State.reply, State.setAnswer_ports, State.finish_ports]
  exact PerPort.get_set_other _ _ _ _ h

end Sys2Proof.Machine
end

