-- ==== Sys2Proof/Laws/Ops.lean ====
section
/-! SUPPORT. What each shared operation leaves as it was, field by field. -/

namespace Sys2Proof.Machine

@[simp] theorem State.reform_pending (s : State) : (s.reform).pending = s.pending := by
  unfold State.reform; simp only []; split <;> rfl
@[simp] theorem State.reform_supply (s : State) : (s.reform).supply = s.supply := by
  unfold State.reform; simp only []; split <;> rfl
@[simp] theorem State.reform_tb (s : State) : (s.reform).tb = s.tb := by
  unfold State.reform; simp only []; split <;> rfl
@[simp] theorem State.reform_inv (s : State) : (s.reform).inv = s.inv := by
  unfold State.reform; simp only []; split <;> rfl
@[simp] theorem State.reform_book (s : State) : (s.reform).book = s.book := by
  unfold State.reform; simp only []; split <;> rfl
@[simp] theorem State.reform_sweep (s : State) : (s.reform).sweep = s.sweep := by
  unfold State.reform; simp only []; split <;> rfl
@[simp] theorem State.reform_ports (s : State) : (s.reform).ports = s.ports := by
  unfold State.reform; simp only []; split <;> rfl
@[simp] theorem State.reform_store (s : State) : (s.reform).store = s.store := by
  unfold State.reform; simp only []; split <;> rfl
@[simp] theorem State.reform_pins (s : State) : (s.reform).pins = s.pins := by
  unfold State.reform; simp only []; split <;> rfl
@[simp] theorem State.reform_free (s : State) : (s.reform).free = s.free := by
  unfold State.reform; simp only []; split <;> rfl
@[simp] theorem State.reform_prot (s : State) : (s.reform).prot = s.prot := by
  unfold State.reform; simp only []; split <;> rfl
@[simp] theorem State.reform_head (s : State) : (s.reform).head = s.head := by
  unfold State.reform; simp only []; split <;> rfl
@[simp] theorem State.judgeWithheld_pending (s : State) (b : Bool) : (s.judgeWithheld b).pending = s.pending := by
  unfold State.judgeWithheld; simp only []; split <;> rfl
@[simp] theorem State.judgeWithheld_supply (s : State) (b : Bool) : (s.judgeWithheld b).supply = s.supply := by
  unfold State.judgeWithheld; simp only []; split <;> rfl
@[simp] theorem State.judgeWithheld_tb (s : State) (b : Bool) : (s.judgeWithheld b).tb = s.tb := by
  unfold State.judgeWithheld; simp only []; split <;> rfl
@[simp] theorem State.judgeWithheld_inv (s : State) (b : Bool) : (s.judgeWithheld b).inv = s.inv := by
  unfold State.judgeWithheld; simp only []; split <;> rfl
@[simp] theorem State.judgeWithheld_book (s : State) (b : Bool) : (s.judgeWithheld b).book = s.book := by
  unfold State.judgeWithheld; simp only []; split <;> rfl
@[simp] theorem State.judgeWithheld_sweep (s : State) (b : Bool) : (s.judgeWithheld b).sweep = s.sweep := by
  unfold State.judgeWithheld; simp only []; split <;> rfl
@[simp] theorem State.judgeWithheld_ports (s : State) (b : Bool) : (s.judgeWithheld b).ports = s.ports := by
  unfold State.judgeWithheld; simp only []; split <;> rfl
@[simp] theorem State.judgeWithheld_store (s : State) (b : Bool) : (s.judgeWithheld b).store = s.store := by
  unfold State.judgeWithheld; simp only []; split <;> rfl
@[simp] theorem State.judgeWithheld_pins (s : State) (b : Bool) : (s.judgeWithheld b).pins = s.pins := by
  unfold State.judgeWithheld; simp only []; split <;> rfl
@[simp] theorem State.judgeWithheld_free (s : State) (b : Bool) : (s.judgeWithheld b).free = s.free := by
  unfold State.judgeWithheld; simp only []; split <;> rfl
@[simp] theorem State.judgeWithheld_prot (s : State) (b : Bool) : (s.judgeWithheld b).prot = s.prot := by
  unfold State.judgeWithheld; simp only []; split <;> rfl
@[simp] theorem State.judgeWithheld_head (s : State) (b : Bool) : (s.judgeWithheld b).head = s.head := by
  unfold State.judgeWithheld; simp only []; split <;> rfl
@[simp] theorem State.reserveReacts_pending (s : State) : (s.reserveReacts).pending = s.pending := by
  simp [State.reserveReacts]
@[simp] theorem State.reserveReacts_supply (s : State) : (s.reserveReacts).supply = s.supply := by
  simp [State.reserveReacts]
@[simp] theorem State.reserveReacts_tb (s : State) : (s.reserveReacts).tb = s.tb := by
  simp [State.reserveReacts]
@[simp] theorem State.reserveReacts_inv (s : State) : (s.reserveReacts).inv = s.inv := by
  simp [State.reserveReacts]
@[simp] theorem State.reserveReacts_book (s : State) : (s.reserveReacts).book = s.book := by
  simp [State.reserveReacts]
@[simp] theorem State.reserveReacts_sweep (s : State) : (s.reserveReacts).sweep = s.sweep := by
  simp [State.reserveReacts]
@[simp] theorem State.reserveReacts_ports (s : State) : (s.reserveReacts).ports = s.ports := by
  simp [State.reserveReacts]
@[simp] theorem State.reserveReacts_store (s : State) : (s.reserveReacts).store = s.store := by
  simp [State.reserveReacts]
@[simp] theorem State.reserveReacts_pins (s : State) : (s.reserveReacts).pins = s.pins := by
  simp [State.reserveReacts]
@[simp] theorem State.reserveReacts_free (s : State) : (s.reserveReacts).free = s.free := by
  simp [State.reserveReacts]
@[simp] theorem State.reserveReacts_prot (s : State) : (s.reserveReacts).prot = s.prot := by
  simp [State.reserveReacts]
@[simp] theorem State.reserveReacts_head (s : State) : (s.reserveReacts).head = s.head := by
  simp [State.reserveReacts]
@[simp] theorem State.takeHolding_pending (s : State) : (s.takeHolding).pending = s.pending := by
  unfold State.takeHolding; simp only []; split <;> simp
@[simp] theorem State.takeHolding_supply (s : State) : (s.takeHolding).supply = s.supply := by
  unfold State.takeHolding; simp only []; split <;> simp
@[simp] theorem State.takeHolding_tb (s : State) : (s.takeHolding).tb = s.tb := by
  unfold State.takeHolding; simp only []; split <;> simp
@[simp] theorem State.takeHolding_inv (s : State) : (s.takeHolding).inv = s.inv := by
  unfold State.takeHolding; simp only []; split <;> simp
@[simp] theorem State.takeHolding_book (s : State) : (s.takeHolding).book = s.book := by
  unfold State.takeHolding; simp only []; split <;> simp
@[simp] theorem State.takeHolding_sweep (s : State) : (s.takeHolding).sweep = s.sweep := by
  unfold State.takeHolding; simp only []; split <;> simp
@[simp] theorem State.takeHolding_ports (s : State) : (s.takeHolding).ports = s.ports := by
  unfold State.takeHolding; simp only []; split <;> simp
@[simp] theorem State.takeHolding_store (s : State) : (s.takeHolding).store = s.store := by
  unfold State.takeHolding; simp only []; split <;> simp
@[simp] theorem State.takeHolding_pins (s : State) : (s.takeHolding).pins = s.pins := by
  unfold State.takeHolding; simp only []; split <;> simp
@[simp] theorem State.takeHolding_free (s : State) : (s.takeHolding).free = s.free := by
  unfold State.takeHolding; simp only []; split <;> simp
@[simp] theorem State.takeHolding_prot (s : State) : (s.takeHolding).prot = s.prot := by
  unfold State.takeHolding; simp only []; split <;> simp
@[simp] theorem State.takeHolding_head (s : State) : (s.takeHolding).head = s.head := by
  unfold State.takeHolding; simp only []; split <;> simp
@[simp] theorem State.endActivation_pending (s : State) : (s.endActivation).pending = s.pending := by
  simp [State.endActivation]
@[simp] theorem State.endActivation_supply (s : State) : (s.endActivation).supply = s.supply := by
  simp [State.endActivation]
@[simp] theorem State.endActivation_tb (s : State) : (s.endActivation).tb = s.tb := by
  simp [State.endActivation]
@[simp] theorem State.endActivation_inv (s : State) : (s.endActivation).inv = s.inv := by
  simp [State.endActivation]
@[simp] theorem State.endActivation_book (s : State) : (s.endActivation).book = s.book := by
  simp [State.endActivation]
@[simp] theorem State.endActivation_sweep (s : State) : (s.endActivation).sweep = s.sweep := by
  simp [State.endActivation]
@[simp] theorem State.endActivation_ports (s : State) : (s.endActivation).ports = s.ports := by
  simp [State.endActivation]
@[simp] theorem State.endActivation_store (s : State) : (s.endActivation).store = s.store := by
  simp [State.endActivation]
@[simp] theorem State.endActivation_pins (s : State) : (s.endActivation).pins = s.pins := by
  simp [State.endActivation]
@[simp] theorem State.endActivation_free (s : State) : (s.endActivation).free = s.free := by
  simp [State.endActivation]
@[simp] theorem State.endActivation_prot (s : State) : (s.endActivation).prot = s.prot := by
  simp [State.endActivation]
@[simp] theorem State.endActivation_head (s : State) : (s.endActivation).head = s.head := by
  simp [State.endActivation]
@[simp] theorem State.handMode_pending (s : State) : (s.handMode).pending = s.pending := by
  unfold State.handMode; simp only []; split <;> simp
@[simp] theorem State.handMode_supply (s : State) : (s.handMode).supply = s.supply := by
  unfold State.handMode; simp only []; split <;> simp
@[simp] theorem State.handMode_tb (s : State) : (s.handMode).tb = s.tb := by
  unfold State.handMode; simp only []; split <;> simp
@[simp] theorem State.handMode_inv (s : State) : (s.handMode).inv = s.inv := by
  unfold State.handMode; simp only []; split <;> simp
@[simp] theorem State.handMode_book (s : State) : (s.handMode).book = s.book := by
  unfold State.handMode; simp only []; split <;> simp
@[simp] theorem State.handMode_sweep (s : State) : (s.handMode).sweep = s.sweep := by
  unfold State.handMode; simp only []; split <;> simp
@[simp] theorem State.handMode_ports (s : State) : (s.handMode).ports = s.ports := by
  unfold State.handMode; simp only []; split <;> simp
@[simp] theorem State.handMode_store (s : State) : (s.handMode).store = s.store := by
  unfold State.handMode; simp only []; split <;> simp
@[simp] theorem State.handMode_pins (s : State) : (s.handMode).pins = s.pins := by
  unfold State.handMode; simp only []; split <;> simp
@[simp] theorem State.handMode_free (s : State) : (s.handMode).free = s.free := by
  unfold State.handMode; simp only []; split <;> simp
@[simp] theorem State.handMode_prot (s : State) : (s.handMode).prot = s.prot := by
  unfold State.handMode; simp only []; split <;> simp
@[simp] theorem State.handMode_head (s : State) : (s.handMode).head = s.head := by
  unfold State.handMode; simp only []; split <;> simp
@[simp] theorem State.reserveSecond_pending (s : State) : (s.reserveSecond).pending = s.pending := by
  unfold State.reserveSecond; simp only []; split <;> (try split) <;> rfl
@[simp] theorem State.reserveSecond_supply (s : State) : (s.reserveSecond).supply = s.supply := by
  unfold State.reserveSecond; simp only []; split <;> (try split) <;> rfl
@[simp] theorem State.reserveSecond_tb (s : State) : (s.reserveSecond).tb = s.tb := by
  unfold State.reserveSecond; simp only []; split <;> (try split) <;> rfl
@[simp] theorem State.reserveSecond_inv (s : State) : (s.reserveSecond).inv = s.inv := by
  unfold State.reserveSecond; simp only []; split <;> (try split) <;> rfl
@[simp] theorem State.reserveSecond_book (s : State) : (s.reserveSecond).book = s.book := by
  unfold State.reserveSecond; simp only []; split <;> (try split) <;> rfl
@[simp] theorem State.reserveSecond_sweep (s : State) : (s.reserveSecond).sweep = s.sweep := by
  unfold State.reserveSecond; simp only []; split <;> (try split) <;> rfl
@[simp] theorem State.reserveSecond_ports (s : State) : (s.reserveSecond).ports = s.ports := by
  unfold State.reserveSecond; simp only []; split <;> (try split) <;> rfl
@[simp] theorem State.reserveSecond_store (s : State) : (s.reserveSecond).store = s.store := by
  unfold State.reserveSecond; simp only []; split <;> (try split) <;> rfl
@[simp] theorem State.reserveSecond_pins (s : State) : (s.reserveSecond).pins = s.pins := by
  unfold State.reserveSecond; simp only []; split <;> (try split) <;> rfl
@[simp] theorem State.reserveSecond_free (s : State) : (s.reserveSecond).free = s.free := by
  unfold State.reserveSecond; simp only []; split <;> (try split) <;> rfl
@[simp] theorem State.reserveSecond_prot (s : State) : (s.reserveSecond).prot = s.prot := by
  unfold State.reserveSecond; simp only []; split <;> (try split) <;> rfl
@[simp] theorem State.reserveSecond_head (s : State) : (s.reserveSecond).head = s.head := by
  unfold State.reserveSecond; simp only []; split <;> (try split) <;> rfl
@[simp] theorem State.takeActivation_pending (s : State) (v : Int) : (s.takeActivation v).pending = s.pending := by
  unfold State.takeActivation; simp only []; split <;> simp
@[simp] theorem State.takeActivation_supply (s : State) (v : Int) : (s.takeActivation v).supply = s.supply := by
  unfold State.takeActivation; simp only []; split <;> simp
@[simp] theorem State.takeActivation_tb (s : State) (v : Int) : (s.takeActivation v).tb = s.tb := by
  unfold State.takeActivation; simp only []; split <;> simp
@[simp] theorem State.takeActivation_inv (s : State) (v : Int) : (s.takeActivation v).inv = s.inv := by
  unfold State.takeActivation; simp only []; split <;> simp
@[simp] theorem State.takeActivation_book (s : State) (v : Int) : (s.takeActivation v).book = s.book := by
  unfold State.takeActivation; simp only []; split <;> simp
@[simp] theorem State.takeActivation_sweep (s : State) (v : Int) : (s.takeActivation v).sweep = s.sweep := by
  unfold State.takeActivation; simp only []; split <;> simp
@[simp] theorem State.takeActivation_ports (s : State) (v : Int) : (s.takeActivation v).ports = s.ports := by
  unfold State.takeActivation; simp only []; split <;> simp
@[simp] theorem State.takeActivation_store (s : State) (v : Int) : (s.takeActivation v).store = s.store := by
  unfold State.takeActivation; simp only []; split <;> simp
@[simp] theorem State.takeActivation_pins (s : State) (v : Int) : (s.takeActivation v).pins = s.pins := by
  unfold State.takeActivation; simp only []; split <;> simp
@[simp] theorem State.takeActivation_free (s : State) (v : Int) : (s.takeActivation v).free = s.free := by
  unfold State.takeActivation; simp only []; split <;> simp
@[simp] theorem State.takeActivation_prot (s : State) (v : Int) : (s.takeActivation v).prot = s.prot := by
  unfold State.takeActivation; simp only []; split <;> simp
@[simp] theorem State.takeActivation_head (s : State) (v : Int) : (s.takeActivation v).head = s.head := by
  unfold State.takeActivation; simp only []; split <;> simp
@[simp] theorem State.enterTrip_pending (s : State) : (s.enterTrip).pending = s.pending := by
  simp [State.enterTrip]
@[simp] theorem State.enterTrip_supply (s : State) : (s.enterTrip).supply = s.supply := by
  simp [State.enterTrip]
@[simp] theorem State.enterTrip_tb (s : State) : (s.enterTrip).tb = s.tb := by
  simp [State.enterTrip]
@[simp] theorem State.enterTrip_inv (s : State) : (s.enterTrip).inv = s.inv := by
  simp [State.enterTrip]
@[simp] theorem State.enterTrip_book (s : State) : (s.enterTrip).book = s.book := by
  simp [State.enterTrip]
@[simp] theorem State.enterTrip_sweep (s : State) : (s.enterTrip).sweep = s.sweep := by
  simp [State.enterTrip]
@[simp] theorem State.enterTrip_ports (s : State) : (s.enterTrip).ports = s.ports := by
  simp [State.enterTrip]
@[simp] theorem State.enterTrip_store (s : State) : (s.enterTrip).store = s.store := by
  simp [State.enterTrip]
@[simp] theorem State.enterTrip_pins (s : State) : (s.enterTrip).pins = s.pins := by
  simp [State.enterTrip]
@[simp] theorem State.enterTrip_free (s : State) : (s.enterTrip).free = s.free := by
  simp [State.enterTrip]
@[simp] theorem State.enterTrip_head (s : State) : (s.enterTrip).head = s.head := by
  simp [State.enterTrip]
@[simp] theorem State.enterHold_pending (s : State) : (s.enterHold).pending = s.pending := by
  simp [State.enterHold]
@[simp] theorem State.enterHold_supply (s : State) : (s.enterHold).supply = s.supply := by
  simp [State.enterHold]
@[simp] theorem State.enterHold_tb (s : State) : (s.enterHold).tb = s.tb := by
  simp [State.enterHold]
@[simp] theorem State.enterHold_inv (s : State) : (s.enterHold).inv = s.inv := by
  simp [State.enterHold]
@[simp] theorem State.enterHold_book (s : State) : (s.enterHold).book = s.book := by
  simp [State.enterHold]
@[simp] theorem State.enterHold_sweep (s : State) : (s.enterHold).sweep = s.sweep := by
  simp [State.enterHold]
@[simp] theorem State.enterHold_ports (s : State) : (s.enterHold).ports = s.ports := by
  simp [State.enterHold]
@[simp] theorem State.enterHold_store (s : State) : (s.enterHold).store = s.store := by
  simp [State.enterHold]
@[simp] theorem State.enterHold_pins (s : State) : (s.enterHold).pins = s.pins := by
  simp [State.enterHold]
@[simp] theorem State.enterHold_free (s : State) : (s.enterHold).free = s.free := by
  simp [State.enterHold]
@[simp] theorem State.enterHold_head (s : State) : (s.enterHold).head = s.head := by
  simp [State.enterHold]
@[simp] theorem State.enterNormal_pending (s : State) : (s.enterNormal).pending = s.pending := by
  unfold State.enterNormal; split <;> (try split) <;> simp
@[simp] theorem State.enterNormal_supply (s : State) : (s.enterNormal).supply = s.supply := by
  unfold State.enterNormal; split <;> (try split) <;> simp
@[simp] theorem State.enterNormal_tb (s : State) : (s.enterNormal).tb = s.tb := by
  unfold State.enterNormal; split <;> (try split) <;> simp
@[simp] theorem State.enterNormal_inv (s : State) : (s.enterNormal).inv = s.inv := by
  unfold State.enterNormal; split <;> (try split) <;> simp
@[simp] theorem State.enterNormal_book (s : State) : (s.enterNormal).book = s.book := by
  unfold State.enterNormal; split <;> (try split) <;> simp
@[simp] theorem State.enterNormal_sweep (s : State) : (s.enterNormal).sweep = s.sweep := by
  unfold State.enterNormal; split <;> (try split) <;> simp
@[simp] theorem State.enterNormal_ports (s : State) : (s.enterNormal).ports = s.ports := by
  unfold State.enterNormal; split <;> (try split) <;> simp
@[simp] theorem State.enterNormal_store (s : State) : (s.enterNormal).store = s.store := by
  unfold State.enterNormal; split <;> (try split) <;> simp
@[simp] theorem State.enterNormal_pins (s : State) : (s.enterNormal).pins = s.pins := by
  unfold State.enterNormal; split <;> (try split) <;> simp
@[simp] theorem State.enterNormal_free (s : State) : (s.enterNormal).free = s.free := by
  unfold State.enterNormal; split <;> (try split) <;> simp
@[simp] theorem State.enterNormal_head (s : State) : (s.enterNormal).head = s.head := by
  unfold State.enterNormal; split <;> (try split) <;> simp
@[simp] theorem State.holdCondition_pending (s : State) : (s.holdCondition).pending = s.pending := by
  unfold State.holdCondition; split <;> simp
@[simp] theorem State.holdCondition_supply (s : State) : (s.holdCondition).supply = s.supply := by
  unfold State.holdCondition; split <;> simp
@[simp] theorem State.holdCondition_tb (s : State) : (s.holdCondition).tb = s.tb := by
  unfold State.holdCondition; split <;> simp
@[simp] theorem State.holdCondition_inv (s : State) : (s.holdCondition).inv = s.inv := by
  unfold State.holdCondition; split <;> simp
@[simp] theorem State.holdCondition_book (s : State) : (s.holdCondition).book = s.book := by
  unfold State.holdCondition; split <;> simp
@[simp] theorem State.holdCondition_sweep (s : State) : (s.holdCondition).sweep = s.sweep := by
  unfold State.holdCondition; split <;> simp
@[simp] theorem State.holdCondition_ports (s : State) : (s.holdCondition).ports = s.ports := by
  unfold State.holdCondition; split <;> simp
@[simp] theorem State.holdCondition_store (s : State) : (s.holdCondition).store = s.store := by
  unfold State.holdCondition; split <;> simp
@[simp] theorem State.holdCondition_pins (s : State) : (s.holdCondition).pins = s.pins := by
  unfold State.holdCondition; split <;> simp
@[simp] theorem State.holdCondition_free (s : State) : (s.holdCondition).free = s.free := by
  unfold State.holdCondition; split <;> simp
@[simp] theorem State.holdCondition_head (s : State) : (s.holdCondition).head = s.head := by
  unfold State.holdCondition; split <;> simp
@[simp] theorem State.latchInhibit_pending (s : State) (k : Kind) : (s.latchInhibit k).pending = s.pending := by
  unfold State.latchInhibit; cases k <;> simp only [] <;> split <;> (try split) <;> simp
@[simp] theorem State.latchInhibit_supply (s : State) (k : Kind) : (s.latchInhibit k).supply = s.supply := by
  unfold State.latchInhibit; cases k <;> simp only [] <;> split <;> (try split) <;> simp
@[simp] theorem State.latchInhibit_tb (s : State) (k : Kind) : (s.latchInhibit k).tb = s.tb := by
  unfold State.latchInhibit; cases k <;> simp only [] <;> split <;> (try split) <;> simp
@[simp] theorem State.latchInhibit_inv (s : State) (k : Kind) : (s.latchInhibit k).inv = s.inv := by
  unfold State.latchInhibit; cases k <;> simp only [] <;> split <;> (try split) <;> simp
@[simp] theorem State.latchInhibit_book (s : State) (k : Kind) : (s.latchInhibit k).book = s.book := by
  unfold State.latchInhibit; cases k <;> simp only [] <;> split <;> (try split) <;> simp
@[simp] theorem State.latchInhibit_sweep (s : State) (k : Kind) : (s.latchInhibit k).sweep = s.sweep := by
  unfold State.latchInhibit; cases k <;> simp only [] <;> split <;> (try split) <;> simp
@[simp] theorem State.latchInhibit_ports (s : State) (k : Kind) : (s.latchInhibit k).ports = s.ports := by
  unfold State.latchInhibit; cases k <;> simp only [] <;> split <;> (try split) <;> simp
@[simp] theorem State.latchInhibit_store (s : State) (k : Kind) : (s.latchInhibit k).store = s.store := by
  unfold State.latchInhibit; cases k <;> simp only [] <;> split <;> (try split) <;> simp
@[simp] theorem State.latchInhibit_pins (s : State) (k : Kind) : (s.latchInhibit k).pins = s.pins := by
  unfold State.latchInhibit; cases k <;> simp only [] <;> split <;> (try split) <;> simp
@[simp] theorem State.latchInhibit_head (s : State) (k : Kind) : (s.latchInhibit k).head = s.head := by
  unfold State.latchInhibit; cases k <;> simp only [] <;> split <;> (try split) <;> simp
@[simp] theorem State.clearInhibit_pending (s : State) (k : Kind) : (s.clearInhibit k).pending = s.pending := by
  unfold State.clearInhibit; cases k <;> simp only [] <;> split <;> simp
@[simp] theorem State.clearInhibit_supply (s : State) (k : Kind) : (s.clearInhibit k).supply = s.supply := by
  unfold State.clearInhibit; cases k <;> simp only [] <;> split <;> simp
@[simp] theorem State.clearInhibit_tb (s : State) (k : Kind) : (s.clearInhibit k).tb = s.tb := by
  unfold State.clearInhibit; cases k <;> simp only [] <;> split <;> simp
@[simp] theorem State.clearInhibit_inv (s : State) (k : Kind) : (s.clearInhibit k).inv = s.inv := by
  unfold State.clearInhibit; cases k <;> simp only [] <;> split <;> simp
@[simp] theorem State.clearInhibit_book (s : State) (k : Kind) : (s.clearInhibit k).book = s.book := by
  unfold State.clearInhibit; cases k <;> simp only [] <;> split <;> simp
@[simp] theorem State.clearInhibit_sweep (s : State) (k : Kind) : (s.clearInhibit k).sweep = s.sweep := by
  unfold State.clearInhibit; cases k <;> simp only [] <;> split <;> simp
@[simp] theorem State.clearInhibit_ports (s : State) (k : Kind) : (s.clearInhibit k).ports = s.ports := by
  unfold State.clearInhibit; cases k <;> simp only [] <;> split <;> simp
@[simp] theorem State.clearInhibit_store (s : State) (k : Kind) : (s.clearInhibit k).store = s.store := by
  unfold State.clearInhibit; cases k <;> simp only [] <;> split <;> simp
@[simp] theorem State.clearInhibit_pins (s : State) (k : Kind) : (s.clearInhibit k).pins = s.pins := by
  unfold State.clearInhibit; cases k <;> simp only [] <;> split <;> simp
@[simp] theorem State.clearInhibit_free (s : State) (k : Kind) : (s.clearInhibit k).free = s.free := by
  unfold State.clearInhibit; cases k <;> simp only [] <;> split <;> simp
@[simp] theorem State.clearInhibit_head (s : State) (k : Kind) : (s.clearInhibit k).head = s.head := by
  unfold State.clearInhibit; cases k <;> simp only [] <;> split <;> simp
@[simp] theorem State.latchIsolated_pending (s : State) (st : Store) : (s.latchIsolated st).pending = s.pending := by
  unfold State.latchIsolated; split <;> simp
@[simp] theorem State.latchIsolated_supply (s : State) (st : Store) : (s.latchIsolated st).supply = s.supply := by
  unfold State.latchIsolated; split <;> simp
@[simp] theorem State.latchIsolated_tb (s : State) (st : Store) : (s.latchIsolated st).tb = s.tb := by
  unfold State.latchIsolated; split <;> simp
@[simp] theorem State.latchIsolated_inv (s : State) (st : Store) : (s.latchIsolated st).inv = s.inv := by
  unfold State.latchIsolated; split <;> simp
@[simp] theorem State.latchIsolated_book (s : State) (st : Store) : (s.latchIsolated st).book = s.book := by
  unfold State.latchIsolated; split <;> simp
@[simp] theorem State.latchIsolated_sweep (s : State) (st : Store) : (s.latchIsolated st).sweep = s.sweep := by
  unfold State.latchIsolated; split <;> simp
@[simp] theorem State.latchIsolated_ports (s : State) (st : Store) : (s.latchIsolated st).ports = s.ports := by
  unfold State.latchIsolated; split <;> simp
@[simp] theorem State.latchIsolated_store (s : State) (st : Store) : (s.latchIsolated st).store = s.store := by
  unfold State.latchIsolated; split <;> simp
@[simp] theorem State.latchIsolated_pins (s : State) (st : Store) : (s.latchIsolated st).pins = s.pins := by
  unfold State.latchIsolated; split <;> simp
@[simp] theorem State.latchIsolated_free (s : State) (st : Store) : (s.latchIsolated st).free = s.free := by
  unfold State.latchIsolated; split <;> simp
@[simp] theorem State.latchIsolated_res (s : State) (st : Store) : (s.latchIsolated st).res = s.res := by
  unfold State.latchIsolated; split <;> simp
@[simp] theorem State.clearIsolated_pending (s : State) (st : Store) : (s.clearIsolated st).pending = s.pending := by
  unfold State.clearIsolated; split <;> simp
@[simp] theorem State.clearIsolated_supply (s : State) (st : Store) : (s.clearIsolated st).supply = s.supply := by
  unfold State.clearIsolated; split <;> simp
@[simp] theorem State.clearIsolated_tb (s : State) (st : Store) : (s.clearIsolated st).tb = s.tb := by
  unfold State.clearIsolated; split <;> simp
@[simp] theorem State.clearIsolated_inv (s : State) (st : Store) : (s.clearIsolated st).inv = s.inv := by
  unfold State.clearIsolated; split <;> simp
@[simp] theorem State.clearIsolated_book (s : State) (st : Store) : (s.clearIsolated st).book = s.book := by
  unfold State.clearIsolated; split <;> simp
@[simp] theorem State.clearIsolated_sweep (s : State) (st : Store) : (s.clearIsolated st).sweep = s.sweep := by
  unfold State.clearIsolated; split <;> simp
@[simp] theorem State.clearIsolated_ports (s : State) (st : Store) : (s.clearIsolated st).ports = s.ports := by
  unfold State.clearIsolated; split <;> simp
@[simp] theorem State.clearIsolated_store (s : State) (st : Store) : (s.clearIsolated st).store = s.store := by
  unfold State.clearIsolated; split <;> simp
@[simp] theorem State.clearIsolated_pins (s : State) (st : Store) : (s.clearIsolated st).pins = s.pins := by
  unfold State.clearIsolated; split <;> simp
@[simp] theorem State.clearIsolated_free (s : State) (st : Store) : (s.clearIsolated st).free = s.free := by
  unfold State.clearIsolated; split <;> simp
@[simp] theorem State.clearIsolated_res (s : State) (st : Store) : (s.clearIsolated st).res = s.res := by
  unfold State.clearIsolated; split <;> simp
@[simp] theorem State.tripLine_pending (s : State) : (s.tripLine).pending = s.pending := by
  unfold State.tripLine; split <;> simp
@[simp] theorem State.tripLine_supply (s : State) : (s.tripLine).supply = s.supply := by
  unfold State.tripLine; split <;> simp
@[simp] theorem State.tripLine_tb (s : State) : (s.tripLine).tb = s.tb := by
  unfold State.tripLine; split <;> simp
@[simp] theorem State.tripLine_inv (s : State) : (s.tripLine).inv = s.inv := by
  unfold State.tripLine; split <;> simp
@[simp] theorem State.tripLine_book (s : State) : (s.tripLine).book = s.book := by
  unfold State.tripLine; split <;> simp
@[simp] theorem State.tripLine_sweep (s : State) : (s.tripLine).sweep = s.sweep := by
  unfold State.tripLine; split <;> simp
@[simp] theorem State.tripLine_ports (s : State) : (s.tripLine).ports = s.ports := by
  unfold State.tripLine; split <;> simp
@[simp] theorem State.tripLine_store (s : State) : (s.tripLine).store = s.store := by
  unfold State.tripLine; split <;> simp
@[simp] theorem State.tripLine_pins (s : State) : (s.tripLine).pins = s.pins := by
  unfold State.tripLine; split <;> simp
@[simp] theorem State.tripLine_free (s : State) : (s.tripLine).free = s.free := by
  unfold State.tripLine; split <;> simp
@[simp] theorem State.tripLine_head (s : State) : (s.tripLine).head = s.head := by
  unfold State.tripLine; split <;> simp
@[simp] theorem State.protectiveActive_pending (s : State) (p : Protective) : (s.protectiveActive p).pending = s.pending := by
  unfold State.protectiveActive; cases p <;> simp
@[simp] theorem State.protectiveActive_supply (s : State) (p : Protective) : (s.protectiveActive p).supply = s.supply := by
  unfold State.protectiveActive; cases p <;> simp
@[simp] theorem State.protectiveActive_tb (s : State) (p : Protective) : (s.protectiveActive p).tb = s.tb := by
  unfold State.protectiveActive; cases p <;> simp
@[simp] theorem State.protectiveActive_inv (s : State) (p : Protective) : (s.protectiveActive p).inv = s.inv := by
  unfold State.protectiveActive; cases p <;> simp
@[simp] theorem State.protectiveActive_book (s : State) (p : Protective) : (s.protectiveActive p).book = s.book := by
  unfold State.protectiveActive; cases p <;> simp
@[simp] theorem State.protectiveActive_sweep (s : State) (p : Protective) : (s.protectiveActive p).sweep = s.sweep := by
  unfold State.protectiveActive; cases p <;> simp
@[simp] theorem State.protectiveActive_ports (s : State) (p : Protective) : (s.protectiveActive p).ports = s.ports := by
  unfold State.protectiveActive; cases p <;> simp
@[simp] theorem State.protectiveActive_store (s : State) (p : Protective) : (s.protectiveActive p).store = s.store := by
  unfold State.protectiveActive; cases p <;> simp
@[simp] theorem State.protectiveActive_pins (s : State) (p : Protective) : (s.protectiveActive p).pins = s.pins := by
  unfold State.protectiveActive; cases p <;> simp
@[simp] theorem State.lineChanged_pending (s : State) (l : Line) : (s.lineChanged l).pending = s.pending := by
  unfold State.lineChanged; split <;> (try split) <;> simp
@[simp] theorem State.lineChanged_supply (s : State) (l : Line) : (s.lineChanged l).supply = s.supply := by
  unfold State.lineChanged; split <;> (try split) <;> simp
@[simp] theorem State.lineChanged_tb (s : State) (l : Line) : (s.lineChanged l).tb = s.tb := by
  unfold State.lineChanged; split <;> (try split) <;> simp
@[simp] theorem State.lineChanged_inv (s : State) (l : Line) : (s.lineChanged l).inv = s.inv := by
  unfold State.lineChanged; split <;> (try split) <;> simp
@[simp] theorem State.lineChanged_book (s : State) (l : Line) : (s.lineChanged l).book = s.book := by
  unfold State.lineChanged; split <;> (try split) <;> simp
@[simp] theorem State.lineChanged_sweep (s : State) (l : Line) : (s.lineChanged l).sweep = s.sweep := by
  unfold State.lineChanged; split <;> (try split) <;> simp
@[simp] theorem State.lineChanged_ports (s : State) (l : Line) : (s.lineChanged l).ports = s.ports := by
  unfold State.lineChanged; split <;> (try split) <;> simp
@[simp] theorem State.lineChanged_store (s : State) (l : Line) : (s.lineChanged l).store = s.store := by
  unfold State.lineChanged; split <;> (try split) <;> simp
@[simp] theorem State.lineChanged_pins (s : State) (l : Line) : (s.lineChanged l).pins = s.pins := by
  unfold State.lineChanged; split <;> (try split) <;> simp
@[simp] theorem State.setLine_pending (s : State) (l : Line) (a : Bool) (n : Nat) : (s.setLine l a n).pending = s.pending := by
  unfold State.setLine; simp only []; split <;> simp
@[simp] theorem State.setLine_supply (s : State) (l : Line) (a : Bool) (n : Nat) : (s.setLine l a n).supply = s.supply := by
  unfold State.setLine; simp only []; split <;> simp
@[simp] theorem State.setLine_tb (s : State) (l : Line) (a : Bool) (n : Nat) : (s.setLine l a n).tb = s.tb := by
  unfold State.setLine; simp only []; split <;> simp
@[simp] theorem State.setLine_inv (s : State) (l : Line) (a : Bool) (n : Nat) : (s.setLine l a n).inv = s.inv := by
  unfold State.setLine; simp only []; split <;> simp
@[simp] theorem State.setLine_book (s : State) (l : Line) (a : Bool) (n : Nat) : (s.setLine l a n).book = s.book := by
  unfold State.setLine; simp only []; split <;> simp
@[simp] theorem State.setLine_sweep (s : State) (l : Line) (a : Bool) (n : Nat) : (s.setLine l a n).sweep = s.sweep := by
  unfold State.setLine; simp only []; split <;> simp
@[simp] theorem State.setLine_ports (s : State) (l : Line) (a : Bool) (n : Nat) : (s.setLine l a n).ports = s.ports := by
  unfold State.setLine; simp only []; split <;> simp
@[simp] theorem State.setLine_store (s : State) (l : Line) (a : Bool) (n : Nat) : (s.setLine l a n).store = s.store := by
  unfold State.setLine; simp only []; split <;> simp
@[simp] theorem State.setLine_pins (s : State) (l : Line) (a : Bool) (n : Nat) : (s.setLine l a n).pins = s.pins := by
  unfold State.setLine; simp only []; split <;> simp
@[simp] theorem State.sampleLine_pending (s : State) (l : Line) (v : Bool) : (s.sampleLine l v).pending = s.pending := by
  unfold State.sampleLine; simp only []; split <;> (try split) <;> (try split) <;> simp
@[simp] theorem State.sampleLine_supply (s : State) (l : Line) (v : Bool) : (s.sampleLine l v).supply = s.supply := by
  unfold State.sampleLine; simp only []; split <;> (try split) <;> (try split) <;> simp
@[simp] theorem State.sampleLine_tb (s : State) (l : Line) (v : Bool) : (s.sampleLine l v).tb = s.tb := by
  unfold State.sampleLine; simp only []; split <;> (try split) <;> (try split) <;> simp
@[simp] theorem State.sampleLine_inv (s : State) (l : Line) (v : Bool) : (s.sampleLine l v).inv = s.inv := by
  unfold State.sampleLine; simp only []; split <;> (try split) <;> (try split) <;> simp
@[simp] theorem State.sampleLine_book (s : State) (l : Line) (v : Bool) : (s.sampleLine l v).book = s.book := by
  unfold State.sampleLine; simp only []; split <;> (try split) <;> (try split) <;> simp
@[simp] theorem State.sampleLine_sweep (s : State) (l : Line) (v : Bool) : (s.sampleLine l v).sweep = s.sweep := by
  unfold State.sampleLine; simp only []; split <;> (try split) <;> (try split) <;> simp
@[simp] theorem State.sampleLine_ports (s : State) (l : Line) (v : Bool) : (s.sampleLine l v).ports = s.ports := by
  unfold State.sampleLine; simp only []; split <;> (try split) <;> (try split) <;> simp
@[simp] theorem State.sampleLine_store (s : State) (l : Line) (v : Bool) : (s.sampleLine l v).store = s.store := by
  unfold State.sampleLine; simp only []; split <;> (try split) <;> (try split) <;> simp
@[simp] theorem State.sampleLine_pins (s : State) (l : Line) (v : Bool) : (s.sampleLine l v).pins = s.pins := by
  unfold State.sampleLine; simp only []; split <;> (try split) <;> (try split) <;> simp
@[simp] theorem State.clearLatch_pending (s : State) (l : Latch) : (s.clearLatch l).pending = s.pending := by
  unfold State.clearLatch; split <;> simp
@[simp] theorem State.clearLatch_supply (s : State) (l : Latch) : (s.clearLatch l).supply = s.supply := by
  unfold State.clearLatch; split <;> simp
@[simp] theorem State.clearLatch_tb (s : State) (l : Latch) : (s.clearLatch l).tb = s.tb := by
  unfold State.clearLatch; split <;> simp
@[simp] theorem State.clearLatch_inv (s : State) (l : Latch) : (s.clearLatch l).inv = s.inv := by
  unfold State.clearLatch; split <;> simp
@[simp] theorem State.clearLatch_book (s : State) (l : Latch) : (s.clearLatch l).book = s.book := by
  unfold State.clearLatch; split <;> simp
@[simp] theorem State.clearLatch_sweep (s : State) (l : Latch) : (s.clearLatch l).sweep = s.sweep := by
  unfold State.clearLatch; split <;> simp
@[simp] theorem State.clearLatch_ports (s : State) (l : Latch) : (s.clearLatch l).ports = s.ports := by
  unfold State.clearLatch; split <;> simp
@[simp] theorem State.clearLatch_store (s : State) (l : Latch) : (s.clearLatch l).store = s.store := by
  unfold State.clearLatch; split <;> simp
@[simp] theorem State.clearLatch_pins (s : State) (l : Latch) : (s.clearLatch l).pins = s.pins := by
  unfold State.clearLatch; split <;> simp
@[simp] theorem State.clearLatch_free (s : State) (l : Latch) : (s.clearLatch l).free = s.free := by
  unfold State.clearLatch; split <;> simp
@[simp] theorem State.resume_pending (s : State) : (s.resume).pending = s.pending := by
  simp [State.resume]
@[simp] theorem State.resume_supply (s : State) : (s.resume).supply = s.supply := by
  simp [State.resume]
@[simp] theorem State.resume_tb (s : State) : (s.resume).tb = s.tb := by
  simp [State.resume]
@[simp] theorem State.resume_inv (s : State) : (s.resume).inv = s.inv := by
  simp [State.resume]
@[simp] theorem State.resume_book (s : State) : (s.resume).book = s.book := by
  simp [State.resume]
@[simp] theorem State.resume_sweep (s : State) : (s.resume).sweep = s.sweep := by
  simp [State.resume]
@[simp] theorem State.resume_ports (s : State) : (s.resume).ports = s.ports := by
  simp [State.resume]
@[simp] theorem State.resume_store (s : State) : (s.resume).store = s.store := by
  simp [State.resume]
@[simp] theorem State.resume_pins (s : State) : (s.resume).pins = s.pins := by
  simp [State.resume]
@[simp] theorem State.resume_free (s : State) : (s.resume).free = s.free := by
  simp [State.resume]
@[simp] theorem State.resume_head (s : State) : (s.resume).head = s.head := by
  simp [State.resume]
@[simp] theorem State.hitWindows_pending (s : State) (n : Nat) (v : Vals) : (s.hitWindows n v).pending = s.pending := by
  unfold State.hitWindows; simp only []; split <;> rfl
@[simp] theorem State.hitWindows_supply (s : State) (n : Nat) (v : Vals) : (s.hitWindows n v).supply = s.supply := by
  unfold State.hitWindows; simp only []; split <;> rfl
@[simp] theorem State.hitWindows_tb (s : State) (n : Nat) (v : Vals) : (s.hitWindows n v).tb = s.tb := by
  unfold State.hitWindows; simp only []; split <;> rfl
@[simp] theorem State.hitWindows_inv (s : State) (n : Nat) (v : Vals) : (s.hitWindows n v).inv = s.inv := by
  unfold State.hitWindows; simp only []; split <;> rfl
@[simp] theorem State.hitWindows_sweep (s : State) (n : Nat) (v : Vals) : (s.hitWindows n v).sweep = s.sweep := by
  unfold State.hitWindows; simp only []; split <;> rfl
@[simp] theorem State.hitWindows_ports (s : State) (n : Nat) (v : Vals) : (s.hitWindows n v).ports = s.ports := by
  unfold State.hitWindows; simp only []; split <;> rfl
@[simp] theorem State.hitWindows_store (s : State) (n : Nat) (v : Vals) : (s.hitWindows n v).store = s.store := by
  unfold State.hitWindows; simp only []; split <;> rfl
@[simp] theorem State.hitWindows_pins (s : State) (n : Nat) (v : Vals) : (s.hitWindows n v).pins = s.pins := by
  unfold State.hitWindows; simp only []; split <;> rfl
@[simp] theorem State.hitWindows_free (s : State) (n : Nat) (v : Vals) : (s.hitWindows n v).free = s.free := by
  unfold State.hitWindows; simp only []; split <;> rfl
@[simp] theorem State.hitWindows_prot (s : State) (n : Nat) (v : Vals) : (s.hitWindows n v).prot = s.prot := by
  unfold State.hitWindows; simp only []; split <;> rfl
@[simp] theorem State.hitWindows_head (s : State) (n : Nat) (v : Vals) : (s.hitWindows n v).head = s.head := by
  unfold State.hitWindows; simp only []; split <;> rfl
@[simp] theorem State.hitWindows_res (s : State) (n : Nat) (v : Vals) : (s.hitWindows n v).res = s.res := by
  unfold State.hitWindows; simp only []; split <;> rfl
@[simp] theorem State.accumulate_pending (s : State) : (s.accumulate).pending = s.pending := by
  unfold State.accumulate; simp only []; split <;> rfl
@[simp] theorem State.accumulate_supply (s : State) : (s.accumulate).supply = s.supply := by
  unfold State.accumulate; simp only []; split <;> rfl
@[simp] theorem State.accumulate_inv (s : State) : (s.accumulate).inv = s.inv := by
  unfold State.accumulate; simp only []; split <;> rfl
@[simp] theorem State.accumulate_sweep (s : State) : (s.accumulate).sweep = s.sweep := by
  unfold State.accumulate; simp only []; split <;> rfl
@[simp] theorem State.accumulate_ports (s : State) : (s.accumulate).ports = s.ports := by
  unfold State.accumulate; simp only []; split <;> rfl
@[simp] theorem State.accumulate_store (s : State) : (s.accumulate).store = s.store := by
  unfold State.accumulate; simp only []; split <;> rfl
@[simp] theorem State.accumulate_pins (s : State) : (s.accumulate).pins = s.pins := by
  unfold State.accumulate; simp only []; split <;> rfl
@[simp] theorem State.accumulate_free (s : State) : (s.accumulate).free = s.free := by
  unfold State.accumulate; simp only []; split <;> rfl
@[simp] theorem State.accumulate_prot (s : State) : (s.accumulate).prot = s.prot := by
  unfold State.accumulate; simp only []; split <;> rfl
@[simp] theorem State.accumulate_head (s : State) : (s.accumulate).head = s.head := by
  unfold State.accumulate; simp only []; split <;> rfl
@[simp] theorem State.accumulate_res (s : State) : (s.accumulate).res = s.res := by
  unfold State.accumulate; simp only []; split <;> rfl
@[simp] theorem State.accumulate_tb (s : State) : (s.accumulate).tb = s.tb := by
  unfold State.accumulate; simp only []; split <;> rfl
@[simp] theorem State.accumulate_plant (s : State) : (s.accumulate).plant = s.plant := by
  unfold State.accumulate; simp only []; split <;> rfl
@[simp] theorem State.closeSlot_pending (s : State) (n : Nat) : (s.closeSlot n).pending = s.pending := by
  unfold State.closeSlot; simp only []; split <;> rfl
@[simp] theorem State.closeSlot_supply (s : State) (n : Nat) : (s.closeSlot n).supply = s.supply := by
  unfold State.closeSlot; simp only []; split <;> rfl
@[simp] theorem State.closeSlot_inv (s : State) (n : Nat) : (s.closeSlot n).inv = s.inv := by
  unfold State.closeSlot; simp only []; split <;> rfl
@[simp] theorem State.closeSlot_sweep (s : State) (n : Nat) : (s.closeSlot n).sweep = s.sweep := by
  unfold State.closeSlot; simp only []; split <;> rfl
@[simp] theorem State.closeSlot_ports (s : State) (n : Nat) : (s.closeSlot n).ports = s.ports := by
  unfold State.closeSlot; simp only []; split <;> rfl
@[simp] theorem State.closeSlot_store (s : State) (n : Nat) : (s.closeSlot n).store = s.store := by
  unfold State.closeSlot; simp only []; split <;> rfl
@[simp] theorem State.closeSlot_pins (s : State) (n : Nat) : (s.closeSlot n).pins = s.pins := by
  unfold State.closeSlot; simp only []; split <;> rfl
@[simp] theorem State.closeSlot_free (s : State) (n : Nat) : (s.closeSlot n).free = s.free := by
  unfold State.closeSlot; simp only []; split <;> rfl
@[simp] theorem State.closeSlot_prot (s : State) (n : Nat) : (s.closeSlot n).prot = s.prot := by
  unfold State.closeSlot; simp only []; split <;> rfl
@[simp] theorem State.closeSlot_head (s : State) (n : Nat) : (s.closeSlot n).head = s.head := by
  unfold State.closeSlot; simp only []; split <;> rfl
@[simp] theorem State.closeSlot_res (s : State) (n : Nat) : (s.closeSlot n).res = s.res := by
  unfold State.closeSlot; simp only []; split <;> rfl
@[simp] theorem State.closeSlot_tb (s : State) (n : Nat) : (s.closeSlot n).tb = s.tb := by
  unfold State.closeSlot; simp only []; split <;> rfl
@[simp] theorem State.closeSlot_plant (s : State) (n : Nat) : (s.closeSlot n).plant = s.plant := by
  unfold State.closeSlot; simp only []; split <;> rfl
@[simp] theorem State.activate_pending (s : State) (n : Nat) : (s.activate n).pending = s.pending := by
  unfold State.activate; simp only []; split <;> rfl
@[simp] theorem State.activate_supply (s : State) (n : Nat) : (s.activate n).supply = s.supply := by
  unfold State.activate; simp only []; split <;> rfl
@[simp] theorem State.activate_inv (s : State) (n : Nat) : (s.activate n).inv = s.inv := by
  unfold State.activate; simp only []; split <;> rfl
@[simp] theorem State.activate_sweep (s : State) (n : Nat) : (s.activate n).sweep = s.sweep := by
  unfold State.activate; simp only []; split <;> rfl
@[simp] theorem State.activate_ports (s : State) (n : Nat) : (s.activate n).ports = s.ports := by
  unfold State.activate; simp only []; split <;> rfl
@[simp] theorem State.activate_store (s : State) (n : Nat) : (s.activate n).store = s.store := by
  unfold State.activate; simp only []; split <;> rfl
@[simp] theorem State.activate_pins (s : State) (n : Nat) : (s.activate n).pins = s.pins := by
  unfold State.activate; simp only []; split <;> rfl
@[simp] theorem State.activate_free (s : State) (n : Nat) : (s.activate n).free = s.free := by
  unfold State.activate; simp only []; split <;> rfl
@[simp] theorem State.activate_prot (s : State) (n : Nat) : (s.activate n).prot = s.prot := by
  unfold State.activate; simp only []; split <;> rfl
@[simp] theorem State.activate_head (s : State) (n : Nat) : (s.activate n).head = s.head := by
  unfold State.activate; simp only []; split <;> rfl
@[simp] theorem State.activate_res (s : State) (n : Nat) : (s.activate n).res = s.res := by
  unfold State.activate; simp only []; split <;> rfl
@[simp] theorem State.activate_tb (s : State) (n : Nat) : (s.activate n).tb = s.tb := by
  unfold State.activate; simp only []; split <;> rfl
@[simp] theorem State.applyRuling_pending (s : State) (n : Nat) (v : Vals) (x : Ruling) : (s.applyRuling n v x).pending = s.pending := by
  unfold State.applyRuling; split <;> simp
@[simp] theorem State.applyRuling_supply (s : State) (n : Nat) (v : Vals) (x : Ruling) : (s.applyRuling n v x).supply = s.supply := by
  unfold State.applyRuling; split <;> simp
@[simp] theorem State.applyRuling_inv (s : State) (n : Nat) (v : Vals) (x : Ruling) : (s.applyRuling n v x).inv = s.inv := by
  unfold State.applyRuling; split <;> simp
@[simp] theorem State.applyRuling_sweep (s : State) (n : Nat) (v : Vals) (x : Ruling) : (s.applyRuling n v x).sweep = s.sweep := by
  unfold State.applyRuling; split <;> simp
@[simp] theorem State.applyRuling_ports (s : State) (n : Nat) (v : Vals) (x : Ruling) : (s.applyRuling n v x).ports = s.ports := by
  unfold State.applyRuling; split <;> simp
@[simp] theorem State.applyRuling_store (s : State) (n : Nat) (v : Vals) (x : Ruling) : (s.applyRuling n v x).store = s.store := by
  unfold State.applyRuling; split <;> simp
@[simp] theorem State.applyRuling_pins (s : State) (n : Nat) (v : Vals) (x : Ruling) : (s.applyRuling n v x).pins = s.pins := by
  unfold State.applyRuling; split <;> simp
@[simp] theorem State.applyRuling_free (s : State) (n : Nat) (v : Vals) (x : Ruling) : (s.applyRuling n v x).free = s.free := by
  unfold State.applyRuling; split <;> simp
@[simp] theorem State.applyRuling_prot (s : State) (n : Nat) (v : Vals) (x : Ruling) : (s.applyRuling n v x).prot = s.prot := by
  unfold State.applyRuling; split <;> simp
@[simp] theorem State.applyRuling_head (s : State) (n : Nat) (v : Vals) (x : Ruling) : (s.applyRuling n v x).head = s.head := by
  unfold State.applyRuling; split <;> simp
@[simp] theorem State.applyRuling_res (s : State) (n : Nat) (v : Vals) (x : Ruling) : (s.applyRuling n v x).res = s.res := by
  unfold State.applyRuling; split <;> simp
@[simp] theorem State.applyRuling_tb (s : State) (n : Nat) (v : Vals) (x : Ruling) : (s.applyRuling n v x).tb = s.tb := by
  unfold State.applyRuling; split <;> simp
@[simp] theorem State.markRisk_pending (s : State) (n : Nat) (r : Option Reason) : (s.markRisk n r).pending = s.pending := by
  unfold State.markRisk; simp only []; split <;> (try split) <;> rfl
@[simp] theorem State.markRisk_supply (s : State) (n : Nat) (r : Option Reason) : (s.markRisk n r).supply = s.supply := by
  unfold State.markRisk; simp only []; split <;> (try split) <;> rfl
@[simp] theorem State.markRisk_tb (s : State) (n : Nat) (r : Option Reason) : (s.markRisk n r).tb = s.tb := by
  unfold State.markRisk; simp only []; split <;> (try split) <;> rfl
@[simp] theorem State.markRisk_inv (s : State) (n : Nat) (r : Option Reason) : (s.markRisk n r).inv = s.inv := by
  unfold State.markRisk; simp only []; split <;> (try split) <;> rfl
@[simp] theorem State.markRisk_ports (s : State) (n : Nat) (r : Option Reason) : (s.markRisk n r).ports = s.ports := by
  unfold State.markRisk; simp only []; split <;> (try split) <;> rfl
@[simp] theorem State.markRisk_store (s : State) (n : Nat) (r : Option Reason) : (s.markRisk n r).store = s.store := by
  unfold State.markRisk; simp only []; split <;> (try split) <;> rfl
@[simp] theorem State.markRisk_pins (s : State) (n : Nat) (r : Option Reason) : (s.markRisk n r).pins = s.pins := by
  unfold State.markRisk; simp only []; split <;> (try split) <;> rfl
@[simp] theorem State.markRisk_free (s : State) (n : Nat) (r : Option Reason) : (s.markRisk n r).free = s.free := by
  unfold State.markRisk; simp only []; split <;> (try split) <;> rfl
@[simp] theorem State.markRisk_prot (s : State) (n : Nat) (r : Option Reason) : (s.markRisk n r).prot = s.prot := by
  unfold State.markRisk; simp only []; split <;> (try split) <;> rfl
@[simp] theorem State.markRisk_head (s : State) (n : Nat) (r : Option Reason) : (s.markRisk n r).head = s.head := by
  unfold State.markRisk; simp only []; split <;> (try split) <;> rfl
@[simp] theorem State.markRisk_res (s : State) (n : Nat) (r : Option Reason) : (s.markRisk n r).res = s.res := by
  unfold State.markRisk; simp only []; split <;> (try split) <;> rfl
@[simp] theorem State.markRisk_sweep (s : State) (n : Nat) (r : Option Reason) : (s.markRisk n r).sweep = s.sweep := by
  unfold State.markRisk; simp only []; split <;> (try split) <;> rfl
@[simp] theorem State.sweepStep_pending (s : State) : (s.sweepStep).pending = s.pending := by
  unfold State.sweepStep; simp only []; split <;> simp
@[simp] theorem State.sweepStep_supply (s : State) : (s.sweepStep).supply = s.supply := by
  unfold State.sweepStep; simp only []; split <;> simp
@[simp] theorem State.sweepStep_tb (s : State) : (s.sweepStep).tb = s.tb := by
  unfold State.sweepStep; simp only []; split <;> simp
@[simp] theorem State.sweepStep_inv (s : State) : (s.sweepStep).inv = s.inv := by
  unfold State.sweepStep; simp only []; split <;> simp
@[simp] theorem State.sweepStep_ports (s : State) : (s.sweepStep).ports = s.ports := by
  unfold State.sweepStep; simp only []; split <;> simp
@[simp] theorem State.sweepStep_store (s : State) : (s.sweepStep).store = s.store := by
  unfold State.sweepStep; simp only []; split <;> simp
@[simp] theorem State.sweepStep_pins (s : State) : (s.sweepStep).pins = s.pins := by
  unfold State.sweepStep; simp only []; split <;> simp
@[simp] theorem State.sweepStep_free (s : State) : (s.sweepStep).free = s.free := by
  unfold State.sweepStep; simp only []; split <;> simp
@[simp] theorem State.sweepStep_prot (s : State) : (s.sweepStep).prot = s.prot := by
  unfold State.sweepStep; simp only []; split <;> simp
@[simp] theorem State.sweepStep_head (s : State) : (s.sweepStep).head = s.head := by
  unfold State.sweepStep; simp only []; split <;> simp
@[simp] theorem State.sweepStep_res (s : State) : (s.sweepStep).res = s.res := by
  unfold State.sweepStep; simp only []; split <;> simp
@[simp] theorem State.sweepSecond_pending (s : State) : (s.sweepSecond).pending = s.pending := by
  unfold State.sweepSecond; split <;> (try split) <;> simp
@[simp] theorem State.sweepSecond_supply (s : State) : (s.sweepSecond).supply = s.supply := by
  unfold State.sweepSecond; split <;> (try split) <;> simp
@[simp] theorem State.sweepSecond_tb (s : State) : (s.sweepSecond).tb = s.tb := by
  unfold State.sweepSecond; split <;> (try split) <;> simp
@[simp] theorem State.sweepSecond_inv (s : State) : (s.sweepSecond).inv = s.inv := by
  unfold State.sweepSecond; split <;> (try split) <;> simp
@[simp] theorem State.sweepSecond_ports (s : State) : (s.sweepSecond).ports = s.ports := by
  unfold State.sweepSecond; split <;> (try split) <;> simp
@[simp] theorem State.sweepSecond_store (s : State) : (s.sweepSecond).store = s.store := by
  unfold State.sweepSecond; split <;> (try split) <;> simp
@[simp] theorem State.sweepSecond_pins (s : State) : (s.sweepSecond).pins = s.pins := by
  unfold State.sweepSecond; split <;> (try split) <;> simp
@[simp] theorem State.sweepSecond_free (s : State) : (s.sweepSecond).free = s.free := by
  unfold State.sweepSecond; split <;> (try split) <;> simp
@[simp] theorem State.sweepSecond_prot (s : State) : (s.sweepSecond).prot = s.prot := by
  unfold State.sweepSecond; split <;> (try split) <;> simp
@[simp] theorem State.sweepSecond_head (s : State) : (s.sweepSecond).head = s.head := by
  unfold State.sweepSecond; split <;> (try split) <;> simp
@[simp] theorem State.sweepSecond_res (s : State) : (s.sweepSecond).res = s.res := by
  unfold State.sweepSecond; split <;> (try split) <;> simp
@[simp] theorem State.sweepTurn_pending (s : State) : (s.sweepTurn).pending = s.pending := by
  unfold State.sweepTurn; split <;> simp
@[simp] theorem State.sweepTurn_supply (s : State) : (s.sweepTurn).supply = s.supply := by
  unfold State.sweepTurn; split <;> simp
@[simp] theorem State.sweepTurn_tb (s : State) : (s.sweepTurn).tb = s.tb := by
  unfold State.sweepTurn; split <;> simp
@[simp] theorem State.sweepTurn_inv (s : State) : (s.sweepTurn).inv = s.inv := by
  unfold State.sweepTurn; split <;> simp
@[simp] theorem State.sweepTurn_ports (s : State) : (s.sweepTurn).ports = s.ports := by
  unfold State.sweepTurn; split <;> simp
@[simp] theorem State.sweepTurn_store (s : State) : (s.sweepTurn).store = s.store := by
  unfold State.sweepTurn; split <;> simp
@[simp] theorem State.sweepTurn_pins (s : State) : (s.sweepTurn).pins = s.pins := by
  unfold State.sweepTurn; split <;> simp
@[simp] theorem State.sweepTurn_free (s : State) : (s.sweepTurn).free = s.free := by
  unfold State.sweepTurn; split <;> simp
@[simp] theorem State.sweepTurn_prot (s : State) : (s.sweepTurn).prot = s.prot := by
  unfold State.sweepTurn; split <;> simp
@[simp] theorem State.sweepTurn_head (s : State) : (s.sweepTurn).head = s.head := by
  unfold State.sweepTurn; split <;> simp
@[simp] theorem State.sweepTurn_res (s : State) : (s.sweepTurn).res = s.res := by
  unfold State.sweepTurn; split <;> simp
@[simp] theorem State.sweepAtTurn_pending (s : State) : (s.sweepAtTurn).pending = s.pending := by
  unfold State.sweepAtTurn; split <;> simp
@[simp] theorem State.sweepAtTurn_supply (s : State) : (s.sweepAtTurn).supply = s.supply := by
  unfold State.sweepAtTurn; split <;> simp
@[simp] theorem State.sweepAtTurn_tb (s : State) : (s.sweepAtTurn).tb = s.tb := by
  unfold State.sweepAtTurn; split <;> simp
@[simp] theorem State.sweepAtTurn_inv (s : State) : (s.sweepAtTurn).inv = s.inv := by
  unfold State.sweepAtTurn; split <;> simp
@[simp] theorem State.sweepAtTurn_ports (s : State) : (s.sweepAtTurn).ports = s.ports := by
  unfold State.sweepAtTurn; split <;> simp
@[simp] theorem State.sweepAtTurn_store (s : State) : (s.sweepAtTurn).store = s.store := by
  unfold State.sweepAtTurn; split <;> simp
@[simp] theorem State.sweepAtTurn_pins (s : State) : (s.sweepAtTurn).pins = s.pins := by
  unfold State.sweepAtTurn; split <;> simp
@[simp] theorem State.sweepAtTurn_free (s : State) : (s.sweepAtTurn).free = s.free := by
  unfold State.sweepAtTurn; split <;> simp
@[simp] theorem State.sweepAtTurn_prot (s : State) : (s.sweepAtTurn).prot = s.prot := by
  unfold State.sweepAtTurn; split <;> simp
@[simp] theorem State.sweepAtTurn_head (s : State) : (s.sweepAtTurn).head = s.head := by
  unfold State.sweepAtTurn; split <;> simp
@[simp] theorem State.sweepAtTurn_res (s : State) : (s.sweepAtTurn).res = s.res := by
  unfold State.sweepAtTurn; split <;> simp
@[simp] theorem State.sweepBegin_pending (s : State) : (s.sweepBegin).pending = s.pending := by
  unfold State.sweepBegin; split <;> rfl
@[simp] theorem State.sweepBegin_supply (s : State) : (s.sweepBegin).supply = s.supply := by
  unfold State.sweepBegin; split <;> rfl
@[simp] theorem State.sweepBegin_tb (s : State) : (s.sweepBegin).tb = s.tb := by
  unfold State.sweepBegin; split <;> rfl
@[simp] theorem State.sweepBegin_inv (s : State) : (s.sweepBegin).inv = s.inv := by
  unfold State.sweepBegin; split <;> rfl
@[simp] theorem State.sweepBegin_ports (s : State) : (s.sweepBegin).ports = s.ports := by
  unfold State.sweepBegin; split <;> rfl
@[simp] theorem State.sweepBegin_store (s : State) : (s.sweepBegin).store = s.store := by
  unfold State.sweepBegin; split <;> rfl
@[simp] theorem State.sweepBegin_pins (s : State) : (s.sweepBegin).pins = s.pins := by
  unfold State.sweepBegin; split <;> rfl
@[simp] theorem State.sweepBegin_free (s : State) : (s.sweepBegin).free = s.free := by
  unfold State.sweepBegin; split <;> rfl
@[simp] theorem State.sweepBegin_prot (s : State) : (s.sweepBegin).prot = s.prot := by
  unfold State.sweepBegin; split <;> rfl
@[simp] theorem State.sweepBegin_head (s : State) : (s.sweepBegin).head = s.head := by
  unfold State.sweepBegin; split <;> rfl
@[simp] theorem State.sweepBegin_res (s : State) : (s.sweepBegin).res = s.res := by
  unfold State.sweepBegin; split <;> rfl
@[simp] theorem State.sweepBegin_book (s : State) : (s.sweepBegin).book = s.book := by
  unfold State.sweepBegin; split <;> rfl
@[simp] theorem State.sweepBegin_plant (s : State) : (s.sweepBegin).plant = s.plant := by
  unfold State.sweepBegin; split <;> rfl
@[simp] theorem State.turn_pending (s : State) : (s.turn).pending = s.pending := by
  unfold State.turn; simp only []; split <;> (try split) <;> (try split) <;> simp
@[simp] theorem State.turn_supply (s : State) : (s.turn).supply = s.supply := by
  unfold State.turn; simp only []; split <;> (try split) <;> (try split) <;> simp
@[simp] theorem State.turn_sweep (s : State) : (s.turn).sweep = s.sweep := by
  unfold State.turn; simp only []; split <;> (try split) <;> (try split) <;> simp
@[simp] theorem State.turn_ports (s : State) : (s.turn).ports = s.ports := by
  unfold State.turn; simp only []; split <;> (try split) <;> (try split) <;> simp
@[simp] theorem State.turn_store (s : State) : (s.turn).store = s.store := by
  unfold State.turn; simp only []; split <;> (try split) <;> (try split) <;> simp
@[simp] theorem State.turn_pins (s : State) : (s.turn).pins = s.pins := by
  unfold State.turn; simp only []; split <;> (try split) <;> (try split) <;> simp
@[simp] theorem State.turn_prot (s : State) : (s.turn).prot = s.prot := by
  unfold State.turn; simp only []; split <;> (try split) <;> (try split) <;> simp
@[simp] theorem State.losePlantLink_pending (s : State) (p : Port) : (s.losePlantLink p).pending = s.pending := by
  unfold State.losePlantLink; cases p <;> simp only [otherPlant] <;> split <;> simp
@[simp] theorem State.losePlantLink_supply (s : State) (p : Port) : (s.losePlantLink p).supply = s.supply := by
  unfold State.losePlantLink; cases p <;> simp only [otherPlant] <;> split <;> simp
@[simp] theorem State.losePlantLink_tb (s : State) (p : Port) : (s.losePlantLink p).tb = s.tb := by
  unfold State.losePlantLink; cases p <;> simp only [otherPlant] <;> split <;> simp
@[simp] theorem State.losePlantLink_inv (s : State) (p : Port) : (s.losePlantLink p).inv = s.inv := by
  unfold State.losePlantLink; cases p <;> simp only [otherPlant] <;> split <;> simp
@[simp] theorem State.losePlantLink_book (s : State) (p : Port) : (s.losePlantLink p).book = s.book := by
  unfold State.losePlantLink; cases p <;> simp only [otherPlant] <;> split <;> simp
@[simp] theorem State.losePlantLink_sweep (s : State) (p : Port) : (s.losePlantLink p).sweep = s.sweep := by
  unfold State.losePlantLink; cases p <;> simp only [otherPlant] <;> split <;> simp
@[simp] theorem State.losePlantLink_ports (s : State) (p : Port) : (s.losePlantLink p).ports = s.ports := by
  unfold State.losePlantLink; cases p <;> simp only [otherPlant] <;> split <;> simp
@[simp] theorem State.losePlantLink_store (s : State) (p : Port) : (s.losePlantLink p).store = s.store := by
  unfold State.losePlantLink; cases p <;> simp only [otherPlant] <;> split <;> simp
@[simp] theorem State.losePlantLink_pins (s : State) (p : Port) : (s.losePlantLink p).pins = s.pins := by
  unfold State.losePlantLink; cases p <;> simp only [otherPlant] <;> split <;> simp
@[simp] theorem State.losePlantLink_free (s : State) (p : Port) : (s.losePlantLink p).free = s.free := by
  unfold State.losePlantLink; cases p <;> simp only [otherPlant] <;> split <;> simp
@[simp] theorem State.losePlantLink_head (s : State) (p : Port) : (s.losePlantLink p).head = s.head := by
  unfold State.losePlantLink; cases p <;> simp only [otherPlant] <;> split <;> simp
@[simp] theorem State.linkLost_pending (s : State) (p : Port) : (s.linkLost p).pending = s.pending := by
  unfold State.linkLost; cases p <;> simp only [] <;> (try split) <;> simp
@[simp] theorem State.linkLost_supply (s : State) (p : Port) : (s.linkLost p).supply = s.supply := by
  unfold State.linkLost; cases p <;> simp only [] <;> (try split) <;> simp
@[simp] theorem State.linkLost_tb (s : State) (p : Port) : (s.linkLost p).tb = s.tb := by
  unfold State.linkLost; cases p <;> simp only [] <;> (try split) <;> simp
@[simp] theorem State.linkLost_inv (s : State) (p : Port) : (s.linkLost p).inv = s.inv := by
  unfold State.linkLost; cases p <;> simp only [] <;> (try split) <;> simp
@[simp] theorem State.linkLost_sweep (s : State) (p : Port) : (s.linkLost p).sweep = s.sweep := by
  unfold State.linkLost; cases p <;> simp only [] <;> (try split) <;> simp
@[simp] theorem State.linkLost_store (s : State) (p : Port) : (s.linkLost p).store = s.store := by
  unfold State.linkLost; cases p <;> simp only [] <;> (try split) <;> simp
@[simp] theorem State.linkLost_pins (s : State) (p : Port) : (s.linkLost p).pins = s.pins := by
  unfold State.linkLost; cases p <;> simp only [] <;> (try split) <;> simp
@[simp] theorem State.linkLost_free (s : State) (p : Port) : (s.linkLost p).free = s.free := by
  unfold State.linkLost; cases p <;> simp only [] <;> (try split) <;> simp
@[simp] theorem State.linkLost_head (s : State) (p : Port) : (s.linkLost p).head = s.head := by
  unfold State.linkLost; cases p <;> simp only [] <;> (try split) <;> simp
@[simp] theorem State.linkOut_pending (s : State) (p : Port) : (s.linkOut p).pending = s.pending := by
  unfold State.linkOut; split <;> simp
@[simp] theorem State.linkOut_supply (s : State) (p : Port) : (s.linkOut p).supply = s.supply := by
  unfold State.linkOut; split <;> simp
@[simp] theorem State.linkOut_tb (s : State) (p : Port) : (s.linkOut p).tb = s.tb := by
  unfold State.linkOut; split <;> simp
@[simp] theorem State.linkOut_inv (s : State) (p : Port) : (s.linkOut p).inv = s.inv := by
  unfold State.linkOut; split <;> simp
@[simp] theorem State.linkOut_sweep (s : State) (p : Port) : (s.linkOut p).sweep = s.sweep := by
  unfold State.linkOut; split <;> simp
@[simp] theorem State.linkOut_store (s : State) (p : Port) : (s.linkOut p).store = s.store := by
  unfold State.linkOut; split <;> simp
@[simp] theorem State.linkOut_pins (s : State) (p : Port) : (s.linkOut p).pins = s.pins := by
  unfold State.linkOut; split <;> simp
@[simp] theorem State.linkOut_free (s : State) (p : Port) : (s.linkOut p).free = s.free := by
  unfold State.linkOut; split <;> simp
@[simp] theorem State.linkOut_head (s : State) (p : Port) : (s.linkOut p).head = s.head := by
  unfold State.linkOut; split <;> simp
/-- A field that every step of a fold leaves is left by the fold. -/
theorem foldl_keeps {α β : Type} (g : State → β) (f : State → α → State) (h : ∀ s a, g (f s a) = g s) (s : State)
    (l : List α) : g (l.foldl f s) = g s := by
  induction l generalizing s with
  | nil => rfl
  | cons a l ih => rw [List.foldl_cons, ih, h]
@[simp] theorem State.entryDue_pending (s : State) (e : Entry) : (s.entryDue e).pending = s.pending := by
  simp [State.entryDue]
@[simp] theorem State.entryDue_supply (s : State) (e : Entry) : (s.entryDue e).supply = s.supply := by
  simp [State.entryDue]
@[simp] theorem State.entryDue_tb (s : State) (e : Entry) : (s.entryDue e).tb = s.tb := by
  simp [State.entryDue]
@[simp] theorem State.entryDue_inv (s : State) (e : Entry) : (s.entryDue e).inv = s.inv := by
  simp [State.entryDue]
@[simp] theorem State.entryDue_sweep (s : State) (e : Entry) : (s.entryDue e).sweep = s.sweep := by
  simp [State.entryDue]
@[simp] theorem State.entryDue_store (s : State) (e : Entry) : (s.entryDue e).store = s.store := by
  simp [State.entryDue]
@[simp] theorem State.entryDue_pins (s : State) (e : Entry) : (s.entryDue e).pins = s.pins := by
  simp [State.entryDue]
@[simp] theorem State.entryDue_free (s : State) (e : Entry) : (s.entryDue e).free = s.free := by
  simp [State.entryDue]
@[simp] theorem State.entryDue_head (s : State) (e : Entry) : (s.entryDue e).head = s.head := by
  simp [State.entryDue]
@[simp] theorem State.entryDue_prot (s : State) (e : Entry) : (s.entryDue e).prot = s.prot := by
  simp [State.entryDue]
@[simp] theorem State.entryDue_ports (s : State) (e : Entry) : (s.entryDue e).ports = s.ports := by
  simp [State.entryDue]
@[simp] theorem State.entryDue_res (s : State) (e : Entry) : (s.entryDue e).res = s.res := by
  simp [State.entryDue]
@[simp] theorem State.entryDue_book (s : State) (e : Entry) : (s.entryDue e).book = s.book := by
  simp [State.entryDue]
@[simp] theorem State.trainDue_pending (s : State) (t : Train) : (s.trainDue t).pending = s.pending := by
  simp [State.trainDue]
@[simp] theorem State.trainDue_supply (s : State) (t : Train) : (s.trainDue t).supply = s.supply := by
  simp [State.trainDue]
@[simp] theorem State.trainDue_tb (s : State) (t : Train) : (s.trainDue t).tb = s.tb := by
  simp [State.trainDue]
@[simp] theorem State.trainDue_inv (s : State) (t : Train) : (s.trainDue t).inv = s.inv := by
  simp [State.trainDue]
@[simp] theorem State.trainDue_sweep (s : State) (t : Train) : (s.trainDue t).sweep = s.sweep := by
  simp [State.trainDue]
@[simp] theorem State.trainDue_store (s : State) (t : Train) : (s.trainDue t).store = s.store := by
  simp [State.trainDue]
@[simp] theorem State.trainDue_pins (s : State) (t : Train) : (s.trainDue t).pins = s.pins := by
  simp [State.trainDue]
@[simp] theorem State.trainDue_free (s : State) (t : Train) : (s.trainDue t).free = s.free := by
  simp [State.trainDue]
@[simp] theorem State.trainDue_head (s : State) (t : Train) : (s.trainDue t).head = s.head := by
  simp [State.trainDue]
@[simp] theorem State.trainDue_prot (s : State) (t : Train) : (s.trainDue t).prot = s.prot := by
  simp [State.trainDue]
@[simp] theorem State.trainDue_ports (s : State) (t : Train) : (s.trainDue t).ports = s.ports := by
  simp [State.trainDue]
@[simp] theorem State.trainDue_res (s : State) (t : Train) : (s.trainDue t).res = s.res := by
  simp [State.trainDue]
@[simp] theorem State.trainDue_book (s : State) (t : Train) : (s.trainDue t).book = s.book := by
  simp [State.trainDue]
@[simp] theorem State.portDue_pending (s : State) (p : Port) : (s.portDue p).pending = s.pending := by
  simp [State.portDue]
@[simp] theorem State.portDue_supply (s : State) (p : Port) : (s.portDue p).supply = s.supply := by
  simp [State.portDue]
@[simp] theorem State.portDue_tb (s : State) (p : Port) : (s.portDue p).tb = s.tb := by
  simp [State.portDue]
@[simp] theorem State.portDue_inv (s : State) (p : Port) : (s.portDue p).inv = s.inv := by
  simp [State.portDue]
@[simp] theorem State.portDue_sweep (s : State) (p : Port) : (s.portDue p).sweep = s.sweep := by
  simp [State.portDue]
@[simp] theorem State.portDue_store (s : State) (p : Port) : (s.portDue p).store = s.store := by
  simp [State.portDue]
@[simp] theorem State.portDue_pins (s : State) (p : Port) : (s.portDue p).pins = s.pins := by
  simp [State.portDue]
@[simp] theorem State.portDue_free (s : State) (p : Port) : (s.portDue p).free = s.free := by
  simp [State.portDue]
@[simp] theorem State.portDue_head (s : State) (p : Port) : (s.portDue p).head = s.head := by
  simp [State.portDue]
@[simp] theorem State.takeDue_pending (s : State) : (s.takeDue).pending = s.pending := by
  unfold State.takeDue
  rw [foldl_keeps (fun s => s.pending) _ (fun s a => s.portDue_pending a), foldl_keeps (fun s => s.pending) _ (fun s a => s.trainDue_pending a),
    foldl_keeps (fun s => s.pending) _ (fun s a => s.entryDue_pending a)]
@[simp] theorem State.takeDue_supply (s : State) : (s.takeDue).supply = s.supply := by
  unfold State.takeDue
  rw [foldl_keeps (fun s => s.supply) _ (fun s a => s.portDue_supply a), foldl_keeps (fun s => s.supply) _ (fun s a => s.trainDue_supply a),
    foldl_keeps (fun s => s.supply) _ (fun s a => s.entryDue_supply a)]
@[simp] theorem State.takeDue_tb (s : State) : (s.takeDue).tb = s.tb := by
  unfold State.takeDue
  rw [foldl_keeps (fun s => s.tb) _ (fun s a => s.portDue_tb a), foldl_keeps (fun s => s.tb) _ (fun s a => s.trainDue_tb a),
    foldl_keeps (fun s => s.tb) _ (fun s a => s.entryDue_tb a)]
@[simp] theorem State.takeDue_inv (s : State) : (s.takeDue).inv = s.inv := by
  unfold State.takeDue
  rw [foldl_keeps (fun s => s.inv) _ (fun s a => s.portDue_inv a), foldl_keeps (fun s => s.inv) _ (fun s a => s.trainDue_inv a),
    foldl_keeps (fun s => s.inv) _ (fun s a => s.entryDue_inv a)]
@[simp] theorem State.takeDue_sweep (s : State) : (s.takeDue).sweep = s.sweep := by
  unfold State.takeDue
  rw [foldl_keeps (fun s => s.sweep) _ (fun s a => s.portDue_sweep a), foldl_keeps (fun s => s.sweep) _ (fun s a => s.trainDue_sweep a),
    foldl_keeps (fun s => s.sweep) _ (fun s a => s.entryDue_sweep a)]
@[simp] theorem State.takeDue_store (s : State) : (s.takeDue).store = s.store := by
  unfold State.takeDue
  rw [foldl_keeps (fun s => s.store) _ (fun s a => s.portDue_store a), foldl_keeps (fun s => s.store) _ (fun s a => s.trainDue_store a),
    foldl_keeps (fun s => s.store) _ (fun s a => s.entryDue_store a)]
@[simp] theorem State.takeDue_pins (s : State) : (s.takeDue).pins = s.pins := by
  unfold State.takeDue
  rw [foldl_keeps (fun s => s.pins) _ (fun s a => s.portDue_pins a), foldl_keeps (fun s => s.pins) _ (fun s a => s.trainDue_pins a),
    foldl_keeps (fun s => s.pins) _ (fun s a => s.entryDue_pins a)]
@[simp] theorem State.takeDue_free (s : State) : (s.takeDue).free = s.free := by
  unfold State.takeDue
  rw [foldl_keeps (fun s => s.free) _ (fun s a => s.portDue_free a), foldl_keeps (fun s => s.free) _ (fun s a => s.trainDue_free a),
    foldl_keeps (fun s => s.free) _ (fun s a => s.entryDue_free a)]
@[simp] theorem State.takeDue_head (s : State) : (s.takeDue).head = s.head := by
  unfold State.takeDue
  rw [foldl_keeps (fun s => s.head) _ (fun s a => s.portDue_head a), foldl_keeps (fun s => s.head) _ (fun s a => s.trainDue_head a),
    foldl_keeps (fun s => s.head) _ (fun s a => s.entryDue_head a)]
@[simp] theorem State.bookSecond_pending (s : State) : (s.bookSecond).pending = s.pending := by
  unfold State.bookSecond; simp only []; split <;> simp
@[simp] theorem State.bookSecond_supply (s : State) : (s.bookSecond).supply = s.supply := by
  unfold State.bookSecond; simp only []; split <;> simp
@[simp] theorem State.bookSecond_ports (s : State) : (s.bookSecond).ports = s.ports := by
  unfold State.bookSecond; simp only []; split <;> simp
@[simp] theorem State.bookSecond_store (s : State) : (s.bookSecond).store = s.store := by
  unfold State.bookSecond; simp only []; split <;> simp
@[simp] theorem State.bookSecond_pins (s : State) : (s.bookSecond).pins = s.pins := by
  unfold State.bookSecond; simp only []; split <;> simp
@[simp] theorem State.secondBody_pending (s : State) : (s.secondBody).pending = s.pending := by
  unfold State.secondBody; simp only []; split <;> simp
@[simp] theorem State.secondBody_supply (s : State) : (s.secondBody).supply = s.supply := by
  unfold State.secondBody; simp only []; split <;> simp
@[simp] theorem State.secondBody_ports (s : State) : (s.secondBody).ports = s.ports := by
  unfold State.secondBody; simp only []; split <;> simp
@[simp] theorem State.secondBody_store (s : State) : (s.secondBody).store = s.store := by
  unfold State.secondBody; simp only []; split <;> simp
@[simp] theorem State.secondBody_pins (s : State) : (s.secondBody).pins = s.pins := by
  unfold State.secondBody; simp only []; split <;> simp

end Sys2Proof.Machine
end

