-- ==== Sys2Proof/Laws/Orders.lean ====
section
/-! SUPPORT. Reads of the order, train and gate records after each write of one, and what the shared operations on them do. -/

namespace Sys2Proof.Machine

/-! ## Records: a read after a write -/

theorem Plant.ord_setOrd (p : Plant) (e x : Entry) (o : Order) : (p.setOrd e o).ord x = if x = e then o else p.ord x := by
  simp only [Plant.ord, Plant.setOrd, Vector.getElem_set, Fin.ext_iff, eq_comm]
@[simp] theorem Plant.train_setOrd (p : Plant) (e : Entry) (o : Order) (t : Train) : (p.setOrd e o).train t = p.train t := rfl
@[simp] theorem Plant.gate_setOrd (p : Plant) (e : Entry) (o : Order) (g : Store × Kind) :
    (p.setOrd e o).gate g = p.gate g := rfl
@[simp] theorem Plant.causes_setOrd (p : Plant) (e : Entry) (o : Order) : (p.setOrd e o).causes = p.causes := rfl
@[simp] theorem Plant.ready_setOrd (p : Plant) (e : Entry) (o : Order) : (p.setOrd e o).ready = p.ready := rfl
@[simp] theorem Plant.due_setOrd (p : Plant) (e : Entry) (o : Order) : (p.setOrd e o).due = p.due := rfl

theorem Plant.ord_modOrd (p : Plant) (e x : Entry) (f : Order → Order) :
    (p.modOrd e f).ord x = if x = e then f (p.ord e) else p.ord x := p.ord_setOrd e x _
@[simp] theorem Plant.train_modOrd (p : Plant) (e : Entry) (f : Order → Order) (t : Train) :
    (p.modOrd e f).train t = p.train t := rfl
@[simp] theorem Plant.gate_modOrd (p : Plant) (e : Entry) (f : Order → Order) (g : Store × Kind) :
    (p.modOrd e f).gate g = p.gate g := rfl
@[simp] theorem Plant.causes_modOrd (p : Plant) (e : Entry) (f : Order → Order) : (p.modOrd e f).causes = p.causes := rfl
@[simp] theorem Plant.ready_modOrd (p : Plant) (e : Entry) (f : Order → Order) : (p.modOrd e f).ready = p.ready := rfl
@[simp] theorem Plant.due_modOrd (p : Plant) (e : Entry) (f : Order → Order) : (p.modOrd e f).due = p.due := rfl

theorem Plant.train_modTrain (p : Plant) (t x : Train) (f : TrainRec → TrainRec) :
    (p.modTrain t f).train x = if x = t then f (p.train t) else p.train x := p.trains.get_set t x _
@[simp] theorem Plant.ord_modTrain (p : Plant) (t : Train) (f : TrainRec → TrainRec) (e : Entry) :
    (p.modTrain t f).ord e = p.ord e := rfl
@[simp] theorem Plant.gate_modTrain (p : Plant) (t : Train) (f : TrainRec → TrainRec) (g : Store × Kind) :
    (p.modTrain t f).gate g = p.gate g := rfl
@[simp] theorem Plant.causes_modTrain (p : Plant) (t : Train) (f : TrainRec → TrainRec) :
    (p.modTrain t f).causes = p.causes := rfl
@[simp] theorem Plant.ready_modTrain (p : Plant) (t : Train) (f : TrainRec → TrainRec) :
    (p.modTrain t f).ready = p.ready := rfl
@[simp] theorem Plant.due_modTrain (p : Plant) (t : Train) (f : TrainRec → TrainRec) : (p.modTrain t f).due = p.due := rfl

theorem Plant.gate_modGate (p : Plant) (g x : Store × Kind) (f : Gate → Gate) :
    (p.modGate g f).gate x = if x = g then f (p.gate g) else p.gate x := by
  obtain ⟨s, k⟩ := g
  obtain ⟨s', k'⟩ := x
  simp only [Plant.gate, Plant.modGate, PerStore.get_set, Prod.mk.injEq]
  by_cases hs : s' = s
  · subst hs
    simp [PerKind.get_set]
  · simp [hs]
@[simp] theorem Plant.ord_modGate (p : Plant) (g : Store × Kind) (f : Gate → Gate) (e : Entry) :
    (p.modGate g f).ord e = p.ord e := rfl
@[simp] theorem Plant.train_modGate (p : Plant) (g : Store × Kind) (f : Gate → Gate) (t : Train) :
    (p.modGate g f).train t = p.train t := rfl
@[simp] theorem Plant.causes_modGate (p : Plant) (g : Store × Kind) (f : Gate → Gate) : (p.modGate g f).causes = p.causes := rfl
@[simp] theorem Plant.ready_modGate (p : Plant) (g : Store × Kind) (f : Gate → Gate) : (p.modGate g f).ready = p.ready := rfl
@[simp] theorem Plant.due_modGate (p : Plant) (g : Store × Kind) (f : Gate → Gate) : (p.modGate g f).due = p.due := rfl

/-! ## Train transitions -/

/-- R112: all that a kept staged order does is to make the change of state a dispatch event. -/
theorem Plant.keepStaged_eq (p : Plant) (t : Train) :
    p.keepStaged t = { p with due := p.due || (p.train t).staged.isSome } := by
  unfold Plant.keepStaged Plant.event
  split <;> simp_all

/-- R140, R112: entry into STOPPING, whole. -/
theorem Plant.toStopping_eq (p : Plant) (cfg : Cfg) (t : Train) :
    p.toStopping cfg t = { p with
      trains := p.trains.set t { (p.train t).move .stopping with window := some (cfg.stopWindow.get (trainKind t)) }
      due := p.due || (p.train t).staged.isSome } := by
  rw [Plant.toStopping, Plant.keepStaged_eq, Plant.train_modTrain, if_pos rfl]
  rfl

/-- R132, R112: entry into IDLE with a restart inhibit above 0, whole. -/
theorem Plant.toIdleInhibited_eq (p : Plant) (env : Env) (t : Train)
    (h : env.cfg.restartInhibit.get (trainKind t) ≠ 0) :
    p.toIdleInhibited env t = { p with
      trains := p.trains.set t { (p.train t).move .idle with
        inhibit := some (env.cfg.restartInhibit.get (trainKind t)) }
      due := p.due || (p.train t).staged.isSome } := by
  rw [Plant.toIdleInhibited, if_neg h, Plant.keepStaged_eq, Plant.train_modTrain, if_pos rfl]
  rfl

/-! ## Rounding -/

/-- R29, R30: a quotient rounded up, as an integer. -/
theorem divUp_eq (a b : Nat) (h : 0 < b) : (divUp a b : Int) = -(-(a : Int) / b) := by
  unfold divUp
  have hb : (b : Int) ≠ 0 := by omega
  have hn := Int.emod_nonneg (-(a : Int)) hb
  have hl := Int.emod_lt_of_pos (-(a : Int)) (b := b) (by omega)
  have hq := Int.mul_ediv_add_emod (-(a : Int)) b
  generalize -(a : Int) / b = q at hq ⊢
  generalize -(a : Int) % b = r at hn hl hq
  have hs : ((a + b - 1 : Nat) : Int) = (b - 1 - r) + b * -q := by
    rw [Int.mul_neg]
    omega
  rw [Int.natCast_ediv, hs, Int.add_mul_ediv_left _ _ hb, Int.ediv_eq_zero_of_lt (by omega) (by omega), Int.zero_add]

end Sys2Proof.Machine
end

