-- ==== Sys2Proof/Laws/PerInstr.lean ====
section
/-! SUPPORT. The family `Payload` of statements about every command, one lemma for each: the frame of a well-formed
request fills at most 126 bytes of the line, which is the size of a frame buffer (Tables 10-1, 10-2). -/

namespace Sys2Proof.Laws

/-- A frame takes six bytes besides its payload (Table 10-2). -/
theorem wire_length (code : Byte) (f : Frame) : (f.wire code).length = f.payload.length + 6 := by
  simp [Frame.wire, natBytes]

end Sys2Proof.Laws

namespace Sys2Proof.Laws.Payload

/-- A well-formed request spells a frame that fits the frame buffer. -/
def Statement (i : Instr) : Prop :=
  i.wellFormed = true → ∀ code f, i.request? = some (code, f) → (f.wire code).length ≤ 126

/-- A command whose frame is its own and fits. -/
theorem of_fits {i : Instr} {c : Byte} {g : Frame} (hr : i.request? = some (c, g))
    (hw : i.wellFormed = true → g.payload.length ≤ 120) : Statement i := by
  intro h code f hc
  rw [hr] at hc
  cases hc
  have := hw h
  rw [wire_length]
  omega

/-- A frame that fits. -/
theorem le_of_fits {f : Frame} (h : f.fits = true) : f.payload.length ≤ 120 := of_decide_eq_true h

/-- A command that is no request. -/
theorem of_none {i : Instr} (hr : i.request? = none) : Statement i := by
  intro _ code f hc
  rw [hr] at hc
  cases hc

theorem poll (f : Frame) : Statement (.poll f) := of_fits rfl le_of_fits
theorem trainReport (f : Frame) : Statement (.trainReport f) := of_fits rfl le_of_fits
theorem submitService (f : Frame) : Statement (.submitService f) := of_fits rfl le_of_fits
theorem cancelService (f : Frame) : Statement (.cancelService f) := of_fits rfl le_of_fits
theorem queryOrder (f : Frame) : Statement (.queryOrder f) := of_fits rfl le_of_fits
theorem queryInventory (f : Frame) : Statement (.queryInventory f) := of_fits rfl le_of_fits
theorem seedInventory (f : Frame) : Statement (.seedInventory f) := of_fits rfl le_of_fits
theorem hold (f : Frame) : Statement (.hold f) := of_fits rfl le_of_fits
theorem resume (f : Frame) : Statement (.resume f) := of_fits rfl le_of_fits
theorem resetTrip (f : Frame) : Statement (.resetTrip f) := of_fits rfl le_of_fits
theorem clearTrain (f : Frame) : Statement (.clearTrain f) := of_fits rfl le_of_fits
theorem clearInhibit (f : Frame) : Statement (.clearInhibit f) := of_fits rfl le_of_fits
theorem handover (f : Frame) : Statement (.handover f) := of_fits rfl le_of_fits
theorem setWindow (f : Frame) : Statement (.setWindow f) := of_fits rfl le_of_fits
theorem configWrite (f : Frame) : Statement (.configWrite f) := of_fits rfl le_of_fits
theorem configRead (f : Frame) : Statement (.configRead f) := of_fits rfl le_of_fits
theorem storeConfig (f : Frame) : Statement (.storeConfig f) := of_fits rfl le_of_fits
theorem imageWriteComplete : Statement .imageWriteComplete := of_none rfl
theorem startPlant (f : Frame) : Statement (.startPlant f) := of_fits rfl le_of_fits
theorem restart (f : Frame) : Statement (.restart f) := of_fits rfl le_of_fits
theorem syncTime (f : Frame) : Statement (.syncTime f) := of_fits rfl le_of_fits
theorem querySlot (f : Frame) : Statement (.querySlot f) := of_fits rfl le_of_fits
theorem commit (f : Frame) : Statement (.commit f) := of_fits rfl le_of_fits
theorem adjust (f : Frame) : Statement (.adjust f) := of_fits rfl le_of_fits
theorem withdraw (f : Frame) : Statement (.withdraw f) := of_fits rfl le_of_fits
theorem openDay (f : Frame) : Statement (.openDay f) := of_fits rfl le_of_fits
theorem stage (f : Frame) : Statement (.stage f) := of_fits rfl le_of_fits
theorem closeDayAccept (f : Frame) : Statement (.closeDayAccept f) :=
  of_fits rfl fun h => Nat.succ_le_succ (of_decide_eq_true h)
theorem closeDayDiscard (f : Frame) : Statement (.closeDayDiscard f) :=
  of_fits rfl fun h => Nat.succ_le_succ (of_decide_eq_true h)
theorem querySweep (f : Frame) : Statement (.querySweep f) := of_fits rfl le_of_fits
theorem sweepRestart (f : Frame) : Statement (.sweepRestart f) := of_fits rfl le_of_fits
theorem queryHeadroom (f : Frame) : Statement (.queryHeadroom f) := of_fits rfl le_of_fits
theorem activate (f : Frame) : Statement (.activate f) := of_fits rfl le_of_fits
theorem queryActive (f : Frame) : Statement (.queryActive f) := of_fits rfl le_of_fits
theorem ackCauses (f : Frame) : Statement (.ackCauses f) := of_fits rfl le_of_fits
theorem setCauseEnable (f : Frame) : Statement (.setCauseEnable f) := of_fits rfl le_of_fits
theorem repeatFrame (code : Byte) (f : Frame) : Statement (.repeatFrame code f) := of_fits rfl le_of_fits
theorem unknownRequest (code : Byte) (f : Frame) : Statement (.unknownRequest code f) :=
  of_fits rfl fun h => le_of_fits (Bool.and_eq_true_iff.1 h).1
theorem frameDiscarded (port : Port) (chars : List RxChar) : Statement (.frameDiscarded port chars) :=
  of_none rfl
theorem rxIdleTimeout (port : Port) : Statement (.rxIdleTimeout port) := of_none rfl
theorem answerSent (port : Port) : Statement (.answerSent port) := of_none rfl
theorem wellheadSample (wa wb : Bool) : Statement (.wellheadSample wa wb) := of_none rfl
theorem qualifierSample (line : Line) (level : Bool) : Statement (.qualifierSample line level) := of_none rfl
theorem timebaseSecond : Statement .timebaseSecond := of_none rfl
theorem intervalTurn : Statement .intervalTurn := of_none rfl
theorem accountingSecond : Statement .accountingSecond := of_none rfl
theorem sweepCycleComplete : Statement .sweepCycleComplete := of_none rfl
theorem placementWaitExpiry : Statement .placementWaitExpiry := of_none rfl
theorem budgetEnd (entry : Fin 24) : Statement (.budgetEnd entry) := of_none rfl
theorem startWindowExpiry (t : Train) : Statement (.startWindowExpiry t) := of_none rfl
theorem stopWindowExpiry (t : Train) : Statement (.stopWindowExpiry t) := of_none rfl
theorem restartInhibitExpiry (t : Train) : Statement (.restartInhibitExpiry t) := of_none rfl
theorem feedbackTimerExpiry (t : Train) : Statement (.feedbackTimerExpiry t) := of_none rfl
theorem linkTimerExpiry (port : Port) : Statement (.linkTimerExpiry port) := of_none rfl
theorem rstnLow : Statement .rstnLow := of_none rfl
theorem coldReset : Statement .coldReset := of_none rfl
theorem lossOfPower : Statement .lossOfPower := of_none rfl

end Sys2Proof.Laws.Payload
end

