-- ==== Sys2Proof/Tests/Slice0.lean ====
section
/-! SUPPORT. Tests: ill-formed commands refused, values of the specification worked by hand, and for each statement
with hypotheses a state and operands that meet them (`witness_<statement>`), at the boundaries of its clauses. -/

namespace Sys2Proof.Tests

open Sys2Proof.Machine

-- One theorem after the other: each kernel evaluation waits for the file so far.
set_option Elab.async false

/-! ## Quantifiers over the parts' names -/

/-- The gates by number. -/
def gateAt (i : Nat) : Store × Kind := (storeAt (i / 2), kindAt (i % 2))

theorem forall_train {P : Train → Prop} : (∀ t, P t) ↔ ∀ i : Fin 8, P (trainAt i) :=
  ⟨fun h _ => h _, fun h t => by
    cases t
    · exact h 0
    · exact h 1
    · exact h 2
    · exact h 3
    · exact h 4
    · exact h 5
    · exact h 6
    · exact h 7⟩

theorem exists_train {P : Train → Prop} : (∃ t, P t) ↔ ∃ i : Fin 8, P (trainAt i) := by
  constructor
  · rintro ⟨t, h⟩
    cases t
    · exact ⟨0, h⟩
    · exact ⟨1, h⟩
    · exact ⟨2, h⟩
    · exact ⟨3, h⟩
    · exact ⟨4, h⟩
    · exact ⟨5, h⟩
    · exact ⟨6, h⟩
    · exact ⟨7, h⟩
  · rintro ⟨i, h⟩
    exact ⟨_, h⟩

theorem forall_gate {P : Store × Kind → Prop} : (∀ g, P g) ↔ ∀ i : Fin 6, P (gateAt i) :=
  ⟨fun h _ => h _, fun h g => by
    rcases g with ⟨s, k⟩
    cases s <;> cases k
    · exact h 0
    · exact h 1
    · exact h 2
    · exact h 3
    · exact h 4
    · exact h 5⟩

theorem forall_port {P : Port → Prop} : (∀ p, P p) ↔ ∀ i : Fin 4, P (portAt i) :=
  ⟨fun h _ => h _, fun h p => by
    cases p
    · exact h 0
    · exact h 1
    · exact h 2
    · exact h 3⟩

theorem forall_store {P : Store → Prop} : (∀ s, P s) ↔ ∀ i : Fin 3, P (storeAt i) :=
  ⟨fun h _ => h _, fun h s => by
    cases s
    · exact h 0
    · exact h 1
    · exact h 2⟩

/-! ## Small states -/

/-- A request's frame on a port, with sequence 1. -/
def fr (p : Port) (l : Fields) : Frame := ⟨p, 1#8, writeFields l⟩

/-- A running plant: C0, C1, X0 and X1 belong to PA, the others to PB; synchronised at interval 1000, SEEDED. -/
def plant : State :=
  let s := State.reset
  { s with
    store := { s.store with cfg := { s.store.cfg with
      owner := ⟨.pa, .pa, .pb, .pb, .pa, .pa, .pb, .pb⟩, capacity := .all 1000, ceil := .all 900 } }
    prot := { s.prot with mode := .normal }
    tb := ⟨true, 1000, 0⟩
    inv := { s.inv with seeded := true, mass := 1000 } }

def inMode (m : PlantMode) (s : State) : State := { s with prot := { s.prot with mode := m } }
def onPlant (f : Plant → Plant) (s : State) : State := { s with plant := f s.plant }
def withTimer (p : Port) (t : LinkTimer) (s : State) : State :=
  { s with prot := { s.prot with timers := s.prot.timers.set p t } }
def withLine (l : Line) (s : State) : State :=
  { s with prot := { s.prot with lines := s.prot.lines.set l ⟨true, 0⟩ } }
def withPage (day : Nat) (s : State) : State :=
  { s with book := { s.book with page := some ⟨day, List.replicate 96 .zero⟩ } }

/-- A train in a state, last reported STOPPED. -/
def train (st : TrainState) : TrainRec := { TrainRec.cold with state := st, reported := some .stopped }

/-- A SERVICE order of PA, to discharge from S0, of the given state. -/
def order (st : OrderState) : Order :=
  { Order.empty with state := st, id := 7, origin := .service, kind := .expand, priority := 3, setpoint := 20000
                     owner := some .pa, budget := some 60, train := none }

/-- One SERVICE order CURRENT on X0, which is RUNNING and holds the draw permit of S0. -/
def duty (p : Plant) : Plant :=
  ((p.setOrd 0 { order .current with train := some .x0 }).modTrain .x0 fun r =>
    { r with state := .running, command := .run, current := some 0, posted := 20000 }).modGate (.s0, .expand)
    fun g => { g with isOpen := true, holders := [0] }

/-- One SERVICE order STAGED on X0, which is IDLE with `n` seconds of restart inhibit. -/
def stagedDuty (n : Nat) (p : Plant) : Plant :=
  (p.setOrd 0 { order .staged with train := some .x0 }).modTrain .x0 fun r =>
    { r with state := .idle, staged := some 0, inhibit := some n }

/-- A train with a record of its own. -/
def withTrain (t : Train) (r : TrainRec) (s : State) : State := onPlant (fun p => p.modTrain t fun _ => r) s

/-- The state a command leaves. -/
def result (o : Host.Outcome State Fault Refusal) : Option State :=
  match o with
  | .next s => some s
  | .fault _ | .refused _ => none

theorem duty_linked : (duty plant.plant).linked := by
  simp only [Plant.linked, forall_train, forall_gate, exists_train]
  decide +kernel

theorem staged_linked : (stagedDuty 0 plant.plant).linked := by
  simp only [Plant.linked, forall_train, forall_gate, exists_train]
  decide +kernel

theorem plant_linked : plant.plant.linked := by
  simp only [Plant.linked, forall_train, forall_gate, exists_train]
  decide +kernel

/-! ## Well-formed commands -/

theorem test_payload_of_120_fits : (Instr.poll ⟨.pa, 0#8, List.replicate 120 0#8⟩).wellFormed = true := by decide +kernel

theorem test_payload_of_121_refused : (Instr.poll ⟨.pa, 0#8, List.replicate 121 0#8⟩).wellFormed = false := by
  decide +kernel

theorem test_repeat_of_121_refused : (Instr.repeatFrame 1#8 ⟨.pa, 0#8, List.replicate 121 0#8⟩).wellFormed = false := by
  decide +kernel

/-- CLOSE_DAY's choice byte is one of the 120. -/
theorem test_close_day_of_120_refused :
    (Instr.closeDayAccept ⟨.mk, 0#8, List.replicate 120 0#8⟩).wellFormed = false
      ∧ (Instr.closeDayDiscard ⟨.mk, 0#8, List.replicate 120 0#8⟩).wellFormed = false := by decide +kernel

/-- 0x42 is in no row of Table 10-4; 0x41 is SET_CAUSE_ENABLE's. -/
theorem test_catalogued_code_is_not_unknown :
    (Instr.unknownRequest 0x41#8 ⟨.pa, 0#8, []⟩).wellFormed = false
      ∧ (Instr.unknownRequest 0x42#8 ⟨.pa, 0#8, []⟩).wellFormed = true := by decide +kernel

theorem test_no_characters_are_no_frame : (Instr.frameDiscarded .pa []).wellFormed = false := by decide +kernel

/-! ## Words and fields -/

/-- R167: the CRC of the nine characters "123456789". -/
theorem test_crc16_check_value :
    crc16 [0x31#8, 0x32#8, 0x33#8, 0x34#8, 0x35#8, 0x36#8, 0x37#8, 0x38#8, 0x39#8] = 0x29B1#16 := by decide +kernel

/-- R174: -2 in four bytes is FF FF FF FE. -/
theorem test_negative_field : Field.s4.bytes (-2) = [0xFF#8, 0xFF#8, 0xFF#8, 0xFE#8] := by decide +kernel

/-- The opcode table gives no row any bits. -/
theorem test_no_word_is_a_command : decodeTableWord 16 0x0107 = none := rfl

/-! ## The queue and the links -/

theorem witness_StepTakesTheFrontCommand :
    ((State.reset.withPending [.timebaseSecond, .rstnLow]).pending = .timebaseSecond :: [.rstnLow])
      ∧ State.reset.pending = [] := ⟨rfl, rfl⟩

theorem witness_ReceivingAFrameReloadsItsTimer :
    State.reset.prot.timers.get .gr ≠ .expired ∧ State.reset.plant.due = false := by decide +kernel

/-- Check 1 (the code above the plant links' last), check 2 (a plant request on MK), check 3 (one byte too many). -/
theorem witness_PortChecksInOrder :
    (Instr.request? (.unknownRequest 20#8 (fr .gr [])) = some (20#8, fr .gr []) ∧ State.reset.accepts 20#8 (fr .gr [])
        ∧ catalogueCode 20#8 = false)
      ∧ (Instr.request? (.restart (fr .mk [])) = some (19#8, fr .mk []) ∧ State.reset.accepts 19#8 (fr .mk [])
        ∧ catalogueCode 19#8 = true ∧ Claims.permittedOn 19 .mk = false)
      ∧ (Instr.request? (.poll (fr .pb [(.u1, 0)])) = some (1#8, fr .pb [(.u1, 0)])
        ∧ State.reset.accepts 1#8 (fr .pb [(.u1, 0)]) ∧ catalogueCode 1#8 = true ∧ Claims.permittedOn 1 .pb = true
        ∧ (fr .pb [(.u1, 0)]).payload.length ≠ Claims.payloadSize 1) := by
  simp only [State.accepts]
  decide +kernel

/-- A receiver in HUNT on an idle line. -/
def listening (p : Port) : State := State.reset.modPort p LinkPort.idle

/-- The longest frame. -/
def longest : Frame := ⟨.gr, 1#8, List.replicate 120 0#8⟩

theorem witness_BytesOfAFrameDoWhatItsRequestDoes :
    Instr.request? (.unknownRequest 20#8 longest) = some (20#8, longest) ∧ (listening .gr).supply = .running
      ∧ ((listening .gr).port .gr).rx = .hunt ∧ ((listening .gr).port .gr).lineIdle = true
      ∧ ((listening .gr).port .gr).answer = .none ∧ longest.payload.length ≤ 120 := by decide +kernel

/-- A key and an answer. -/
def someKey : FrameKey := ⟨1#8, 1#8, 0, 0#16⟩
def someAnswer : Answer := ⟨1#8, 1#8, .ok, 0#16, []⟩

/-- A wrong CRC of the empty frame, and an answer being sent. -/
theorem witness_ReceiverAndEndOfAnswer :
    ((listening .pa).supply = .running ∧ ((listening .pa).port .pa).rx = .hunt
        ∧ ((listening .pa).port .pa).lineIdle = true ∧ ((listening .pa).port .pa).answer = .none
        ∧ (fr .pa []).payload.length ≤ 120 ∧ natBytes 2 ((fr .pa []).crc 1#8).toNat ≠ [0#8, 0#8])
      ∧ ((State.reset.setAnswer .mk (.sending someKey someAnswer)).supply = .running
        ∧ ((State.reset.setAnswer .mk (.sending someKey someAnswer)).port .mk).answer = .sending someKey someAnswer) := by
  decide +kernel

/-- A port in HUNT on an idle line, with an answer outstanding or none; one in SKIP; one in HUNT whose line is not idle. -/
theorem witness_CharactersDiscarded :
    (let s := (listening .pa).setAnswer .pa (.sending someKey someAnswer); s.supply = .running
        ∧ (s.port .pa).rx = .hunt ∧ (s.port .pa).lineIdle = true ∧ (s.port .pa).answer ≠ .none)
      ∧ (State.reset.supply = .running ∧ (State.reset.port .pa).rx = .skip)
      ∧ (let s := (listening .pa).modPort .pa LinkPort.frameEnd; (s.port .pa).rx = .hunt
        ∧ (s.port .pa).lineIdle = false)
      ∧ ((listening .pa).port .pa).answer = .none ∧ 120 < (121#8).toNat ∧ (0xA6#8 : Byte) ≠ 0xA7#8 := by
  decide +kernel

/-- R166: a length of 121, and a start byte while an answer is outstanding, send the receiver to SKIP. -/
theorem test_skip :
    ((result (exec (.frameDiscarded .pa ([0xA7#8, 1#8, 2#8, 121#8].map .byte)) (listening .pa))).map fun s =>
        (s.port .pa).rx) = some .skip
      ∧ ((result (exec (.frameDiscarded .pa [.byte 0xA7#8])
        ((listening .pa).setAnswer .pa (.sending someKey someAnswer)))).map fun s => (s.port .pa).rx) = some .skip := by
  decide +kernel

theorem witness_FieldsReadBackAsWritten :
    ∀ x ∈ [((.s4 : Field), (-2147483648 : Int)), (.s8, 9223372036854775807), (.u1, 255), (.u2, 0)], x.1.fits x.2 := by
  simp only [Field.fits]
  decide +kernel

/-- A pass outside NORMAL; orders, lists and trains in agreement, with a live order and FREE entries. -/
theorem witness_DispatchPassesAndStoreChoice :
    State.reset.env.mode ≠ .normal ∧ (duty plant.plant).linked ∧ ((duty plant.plant).ord 0).state.live = true
      ∧ ((duty plant.plant).ord 1).state.live = false := ⟨by decide +kernel, duty_linked, by decide +kernel⟩

/-- A SERVICE order of PA to discharge, submitted without a store. -/
def anywhere : NewOrder := ⟨.service, .expand, 3, 20000, none, none, some .pa, some 60⟩

/-- X0 IDLE, and the draw gate of S0 open or not. -/
def idleX0 (isOpen : Bool) : Plant :=
  (plant.plant.modTrain .x0 fun _ => train .idle).modGate (.s0, .expand) fun g => { g with isOpen := isOpen }

/-- One SERVICE order READY, X0 IDLE, and the draw gate of S0 open or not. -/
def readyDuty (isOpen : Bool) : Plant :=
  { ((idleX0 isOpen).setOrd 0 (order .ready)) with ready := [0], due := true }

theorem ready_linked (b : Bool) : (readyDuty b).linked := by
  cases b <;>
  · simp only [Plant.linked, forall_train, forall_gate, exists_train]
    decide +kernel

theorem ready_ranked (b : Bool) : (readyDuty b).ranked := by
  cases b <;>
  · simp only [Plant.ranked, forall_gate]
    decide +kernel

theorem staged_ranked : (stagedDuty 0 plant.plant).ranked := by
  simp only [Plant.ranked, forall_gate]
  decide +kernel

/-- A pass in NORMAL with a dispatch event standing. -/
theorem witness_DispatchPass :
    (readyDuty true).linked ∧ (readyDuty true).ranked ∧ plant.env.mode = .normal ∧ (readyDuty true).due = true
      ∧ ∀ e, ((readyDuty true).ord e).priority ≤ 6 := ⟨ready_linked _, ready_ranked _, by decide +kernel⟩

/-- A READY order whose gate is OPEN or CLOSED, and a STAGED one. -/
theorem witness_OrderConsidered :
    (∀ b, (readyDuty b).linked ∧ (readyDuty b).ranked ∧ ((readyDuty b).ord 0).state = .ready
        ∧ ((readyDuty b).ord 0).owner = some .pa)
      ∧ (stagedDuty 0 plant.plant).linked ∧ (stagedDuty 0 plant.plant).ranked
      ∧ ((stagedDuty 0 plant.plant).ord 0).state = .staged ∧ isPlant .pa = true :=
  ⟨fun b => ⟨ready_linked b, ready_ranked b, by cases b <;> decide +kernel⟩, staged_linked, staged_ranked,
    by decide +kernel⟩

/-- R107: the gate OPEN, X0 eligible: STARTING for the order. Table 6-5: the gate CLOSED: WAITING. -/
theorem test_consider_ready :
    (((readyDuty true).considerReady plant.env 0).train .x0).state = .starting
      ∧ (((readyDuty true).considerReady plant.env 0).train .x0).current = some 0
      ∧ (((readyDuty false).considerReady plant.env 0).gate (.s0, .expand)).wait = [0] := by decide +kernel

theorem serves_x0 : Claims.serves plant.env.cfg anywhere .x0 := ⟨rfl, fun _ => ⟨.pa, rfl, by decide +kernel⟩⟩

theorem candidate_s0 (b : Bool) : Claims.candidate (idleX0 b) plant.env anywhere .s0 :=
  ⟨by decide +kernel, .x0, serves_x0, by decide +kernel, by cases b <;> decide +kernel⟩

/-- The four cases of the choice: a gate that grants, none that does, no train available, every store ISOLATED. -/
theorem witness_StoreChoice :
    (anywhere.store = none ∧ (∀ x, anywhere.owner = some x → isPlant x = true)
        ∧ ∀ b, ((idleX0 b).create plant.env anywhere).isSome = true)
      ∧ (Claims.candidate (idleX0 true) plant.env anywhere .s0 ∧ Claims.grants (idleX0 true) plant.env .expand .s0)
      ∧ (Claims.candidate (idleX0 false) plant.env anywhere .s0
        ∧ ∀ x, ¬ Claims.grants (idleX0 false) plant.env .expand x)
      ∧ ((∀ x, ¬ Claims.candidate plant.plant plant.env anywhere x) ∧ Claims.reachable plant.env anywhere .s0
        ∧ plant.env.isolated.get .s0 = false)
      ∧ (∀ x, ({ plant.env with isolated := .all true } : Env).isolated.get x = true)
      ∧ Claims.reachable { plant.env with isolated := .all true } anywhere .s0 := by
  refine ⟨⟨rfl, ?_, ?_⟩, ⟨candidate_s0 true, by decide +kernel, by decide +kernel⟩, ⟨candidate_s0 false, ?_⟩,
    ⟨?_, ⟨.x0, serves_x0, by decide +kernel⟩, by decide +kernel⟩, ?_, ⟨.x0, serves_x0, by decide +kernel⟩⟩
  · rintro x h
    cases h
    rfl
  · intro b
    cases b <;> decide +kernel
  · rintro x ⟨h, -⟩
    revert h
    cases x <;> decide +kernel
  · rintro x ⟨-, t, -, -, h, -⟩
    revert h
    cases t <;> decide +kernel
  · intro x
    cases x <;> rfl

/-- R93: with no gate that grants, S1 of S1 and S2 with 500 Wh each, and S2 when it has more; S0 once its gate grants. -/
theorem test_store_of_largest_measure :
    [(false, (⟨0, 500, 500⟩ : PerStore Nat)), (false, ⟨0, 500, 501⟩), (true, ⟨0, 500, 501⟩)].map (fun h =>
        ((idleX0 h.1).create { plant.env with heat := h.2 } anywhere).map fun x => (x.2.ord x.1).store)
      = [some .s1, some .s2, some .s0] := by decide +kernel

theorem witness_QueriesAnswerAndChangeNothing :
    ((fr .pa []).payload = [] ∧ isPlant .pa = true ∧ plant.accepts 1#8 (fr .pa []) ∧ plant.accepts 6#8 (fr .pa []))
      ∧ ((fr .gr []).payload = [] ∧ isPlant (fr .gr []).port = false ∧ plant.accepts 42#8 (fr .gr []))
      ∧ ((fr .mk []).payload = [] ∧ plant.accepts 40#8 (fr .mk []))
      ∧ (plant.accepts 49#8 (fr .gr []) ∧ plant.tb.synced = true)
      ∧ (State.reset.accepts 49#8 (fr .gr []) ∧ State.reset.tb.synced = false) := by
  simp only [State.accepts]
  decide +kernel

/-- R174: by position in the lists 'set, clear' of Table 1-1 and 'true, false' of Table 6-2. -/
theorem test_set_comes_first :
    (∀ b ∈ [true, false], (State.inventoryFields { plant with inv := { plant.inv with reconFault := b } }).getLast?
        = some (.u1, if b then 0 else 1))
      ∧ ∀ b ∈ [true, false], (onPlant (fun p => { p with placed := b }) plant).summaryFields.getLast?
        = some (.u1, if b then 0 else 1) := by decide +kernel

/-- The record read is the summary, an order and no order; a slot unsynchronised and FREE; an item, the store status and
no item. -/
theorem witness_QueriesOfRecords :
    (∀ id ∈ [(0 : Int), 7, 65535], plant.accepts 5#8 (fr .pa [(.u2, id)])
        ∧ readFields [.u2] (fr .pa [(.u2, id)]).payload = some [id])
      ∧ ((onPlant duty plant).received .pa).plant.entryOf 7 = some 0
      ∧ (∀ n ∈ [(0 : Int), 4294967295], plant.accepts 33#8 (fr .mk [(.u4, n)])
        ∧ readFields [.u4] (fr .mk [(.u4, n)]).payload = some [n])
      ∧ (∀ x ∈ [((0 : Int), (0 : Int)), (33, 2), (33, 3)], plant.accepts 16#8 (fr .pb [(.u1, x.1), (.u1, x.2)])
        ∧ readFields [.u1, .u1] (fr .pb [(.u1, x.1), (.u1, x.2)]).payload = some [x.1, x.2]) := by
  simp only [State.accepts]
  decide +kernel

/-! ## Trains and orders: requests -/

/-- A report of X0 (train 4), and one of a train, a state, a power and a mass. -/
def report (tr rep power kg : Int) : Frame := fr .pa [(.u1, tr), (.u1, rep), (.u4, power), (.u4, kg)]

/-- The last state, power and mass that are taken; the first of each that is not; a train of the other link. -/
theorem witness_TrainReports :
    (plant.accepts 2#8 (report 4 4 250000 1000000) ∧ isPlant .pa = true
        ∧ readFields [.u1, .u1, .u4, .u4] (report 4 4 250000 1000000).payload = some [4, 4, 250000, 1000000]
        ∧ trainOf? 4 = some .x0 ∧ reportedOf? 4 = some .unavailable ∧ (plant.store.cfg.owner.get .x0).port? = some .pa)
      ∧ (∀ x ∈ [((8 : Int), (0 : Int), (0 : Int), (0 : Int)), (4, 5, 0, 0), (4, 0, 250001, 0), (4, 0, 0, 1000001)],
        plant.accepts 2#8 (report x.1 x.2.1 x.2.2.1 x.2.2.2)
          ∧ readFields [.u1, .u1, .u4, .u4] (report x.1 x.2.1 x.2.2.1 x.2.2.2).payload = some [x.1, x.2.1, x.2.2.1, x.2.2.2]
          ∧ (trainOf? x.1 = none ∨ reportedOf? x.2.1 = none ∨ 250000 < x.2.2.1 ∨ 1000000 < x.2.2.2))
      ∧ (plant.accepts 2#8 (report 7 0 0 0) ∧ readFields [.u1, .u1, .u4, .u4] (report 7 0 0 0).payload = some [7, 0, 0, 0]
        ∧ trainOf? 7 = some .x3 ∧ reportedOf? 0 = some .stopped ∧ (plant.store.cfg.owner.get .x3).port? ≠ some .pa) := by
  simp only [State.accepts]
  decide +kernel

/-- One SERVICE order STAGED on X0, which is STOPPING. -/
def stopping (p : Plant) : Plant :=
  (stagedDuty 0 p).modTrain .x0 fun r => { r with state := .stopping, inhibit := none, window := some 9 }

theorem witness_ReportMovesTheTrainByTable82 :
    ((duty plant.plant).train .x0).staged = none
      ∧ ∀ e, ((duty plant.plant).train .x0).current = some e →
        ((duty plant.plant).ord e).state = .current ∧ ((duty plant.plant).ord e).train = some .x0 := by decide +kernel

/-- PA's timer EXPIRED, X1 LOST, and PA's order READY at the open draw gate of S0. -/
def returning : State := withTimer .pa .expired (onPlant (fun p =>
  { ((p.setOrd 0 (order .ready)).modTrain .x1 fun _ => { train .lost with command := .stop }).modGate (.s0, .expand)
      (fun g => { g with isOpen := true }) with ready := [0] }) plant)

/-- Section 8.10, second u+200: the report settles X1 to IDLE in restart inhibit, and the recovery's pass reads it so. -/
theorem test_recovery_reads_the_report :
    (result (exec (.trainReport (fr .pa [(.u1, 5), (.u1, 0), (.u4, 0), (.u4, 0)])) returning)).map (fun s =>
      ((s.plant.train .x1).state, (s.plant.train .x1).inhibit.isSome, (s.plant.train .x1).staged))
      = some (.idle, true, some 0) := by decide +kernel

/-- A STAGED order on X0, IDLE in restart inhibit or STOPPING. -/
theorem witness_ReportOfAStagedTrain :
    (stagedDuty 1 plant.plant).linked ∧ ((stagedDuty 1 plant.plant).train .x0).staged = some 0
      ∧ (stopping plant.plant).linked ∧ ((stopping plant.plant).train .x0).staged = some 0 := by
  refine ⟨?_, by decide +kernel, ?_, by decide +kernel⟩ <;>
  · simp only [Plant.linked, forall_train, forall_gate, exists_train]
    decide +kernel

/-- R112: the order is kept while X0 goes from IDLE to STOPPING. -/
theorem test_staged_kept :
    (((stagedDuty 1 plant.plant).reportMove plant.env .x0 .stopping).train .x0).state = .stopping
      ∧ (((stagedDuty 1 plant.plant).reportMove plant.env .x0 .stopping).train .x0).staged = some 0 := by decide +kernel

/-- A submission's frame: kind, setpoint, priority, store, train, budget. -/
def submission (kind w prio st tr budget : Int) : Frame :=
  fr .pa [(.u1, kind), (.u4, w), (.u1, prio), (.u1, st), (.u1, tr), (.u2, budget)]

/-- What a submission's payload holds. -/
def submitted (f : Frame) : Option (List Int) := readFields [.u1, .u4, .u1, .u1, .u1, .u2] f.payload

/-- Table 6-4 check 1: the ends of each range, and one value beyond each. -/
theorem test_submission_ranges :
    [[(1 : Int), 1000000, 5, 2, 7, 60], [0, 0, 0, 255, 255, 14400], [2, 0, 0, 0, 0, 60], [0, 1000001, 0, 0, 0, 60],
        [0, 0, 6, 0, 0, 60], [0, 0, 0, 3, 0, 60], [0, 0, 0, 0, 8, 60], [0, 0, 0, 0, 0, 59], [0, 0, 0, 0, 0, 14401]].map
        (fun l => (readSubmission l).map fun x => (x.kind, x.store, x.train))
      = [some (.expand, some .s2, some .x3), some (.compress, none, none), none, none, none, none, none, none, none] := by
  decide +kernel

/-- A discharge of ANY store on ANY train; on X0 from S2. -/
theorem witness_ServiceSubmissions_taken :
    (∀ f ∈ [submission 1 1000000 0 255 255 14400, submission 1 1 5 2 4 60], plant.accepts 3#8 f ∧ isPlant f.port = true
        ∧ (submitted f).isSome = true ∧ ((submitted f).bind readSubmission).isSome = true)
      ∧ (submitted (submission 1 1 5 2 4 60)).bind readSubmission
          = some ⟨.expand, 1, 5, some .s2, some .x0, 60⟩
      ∧ trainKind .x0 = .expand ∧ plant.store.cfg.maskHas .x0 .s2 = true
      ∧ (plant.store.cfg.owner.get .x0).port? = some .pa ∧ plant.prot.mode = .normal
      ∧ plant.prot.dischargeInhibit = false
      ∧ ((plant.received .pa).plant.create (plant.received .pa).env
          ⟨.service, .expand, 5, 15000, some .s2, some .x0, some .pa, some 60⟩).isSome = true := by
  simp only [State.accepts]
  decide +kernel

/-- Kind 2, priority 6, store 3, train 8, 1,000,001 kW and budgets of 59 and 14,401 s are refused; X0 for a charge; X3, of
PB; SETUP; a full table. -/
theorem witness_ServiceSubmissions_refused :
    (∀ f ∈ [submission 2 1 0 255 255 60, submission 1 1 6 255 255 60, submission 1 1 0 3 255 60, submission 1 1 0 255 8 60,
          submission 1 1 0 255 255 59, submission 1 1000001 0 255 255 60, submission 1 1 0 255 255 14401],
        plant.accepts 3#8 f ∧ (submitted f).isSome = true ∧ (submitted f).bind readSubmission = none)
      ∧ (submitted (submission 0 1 0 255 4 60)).bind readSubmission = some ⟨.compress, 1, 0, none, some .x0, 60⟩
      ∧ trainKind .x0 ≠ .compress
      ∧ (submitted (submission 1 1 0 255 7 60)).bind readSubmission = some ⟨.expand, 1, 0, none, some .x3, 60⟩
      ∧ (plant.store.cfg.owner.get .x3).port? ≠ some .pa
      ∧ (inMode .setup plant).accepts 3#8 (submission 1 1 0 255 255 60) ∧ (inMode .setup plant).prot.mode = .setup
      ∧ (onPlant (fun p => { p with orders := Vector.replicate 24 (order .ready) }) plant).accepts 3#8
          (submission 1 1 0 255 255 60)
      ∧ ((onPlant (fun p => { p with orders := Vector.replicate 24 (order .ready) }) plant).received
          .pa).plant.freeEntry = none := by
  simp only [State.accepts]
  decide +kernel

/-- The counter at its last id. -/
theorem witness_CreatingAnOrder :
    let p : Plant := { plant.plant with nextId := 65535 }
    (p.create plant.env ⟨.service, .expand, 5, 15000, some .s2, some .x0, some .pa, some 60⟩).isSome = true
      ∧ 1 ≤ p.nextId ∧ p.nextId ≤ 65535 := by decide +kernel

theorem witness_RetiringAnOrder : (duty plant.plant).linked := duty_linked

/-- Order 0 CURRENT on X0, order 1 READY, and orders 2 (a GRID order) and 3 WAITING at the gate, all of one level. -/
def crowded (p : Plant) : Plant :=
  { ((((duty p).setOrd 1 (order .ready)).setOrd 2 { order .waiting with origin := .grid }).setOrd 3
      (order .waiting)).modGate (.s0, .expand) fun g => { g with wait := [2, 3] } with ready := [1] }

theorem crowded_linked : (crowded plant.plant).linked := by
  simp only [Plant.linked, forall_train, forall_gate, exists_train]
  decide +kernel

theorem crowded_ranked : (crowded plant.plant).ranked := by
  simp only [Plant.ranked, forall_gate]
  decide +kernel

/-- R102, R105, R120, R122: on a fault and on a hold the order from X0 returns ahead of order 1, and the freed permit then
promotes the GRID order ahead of both; a retirement frees the permit alone. -/
theorem test_places_of_returns :
    let p := crowded plant.plant
    [p.toFault plant.env .x0 .reported, p.holdTrains plant.env.cfg (.all false), p.loseTrains plant.env.cfg .pa,
        p.retireSet plant.env.cfg [(0, .withdrawn)]].map
        (fun q => (q.ready, (q.gate (.s0, .expand)).wait, (q.train .x0).state))
      = [([2, 0, 1], [3], .fault), ([2, 0, 1], [3], .stopping), ([2, 0, 1], [3], .lost), ([2, 1], [3], .stopping)] := by
  decide +kernel

/-- Order 7 is PA's, so PB may not cancel it; order 8 is none. -/
theorem witness_CancelRetiresTheOrder :
    (∀ x ∈ [((.pa : Port), (7 : Int)), (.pb, 7), (.pa, 8)],
        (onPlant duty plant).accepts 4#8 (fr x.1 [(.u2, x.2)]) ∧ isPlant x.1 = true
          ∧ readFields [.u2] (fr x.1 [(.u2, x.2)]).payload = some [x.2])
      ∧ ((onPlant duty plant).received .pa).plant.liveService 7 = some 0
      ∧ (((onPlant duty plant).received .pa).plant.ord 0).owner = some .pa
      ∧ ((onPlant duty plant).received .pb).plant.liveService 7 = some 0
      ∧ (((onPlant duty plant).received .pa).plant.short = false)
      ∧ ∀ e, ((((onPlant duty plant).received .pa).plant.ord e).state.live = true) →
          (((onPlant duty plant).received .pa).plant.ord e).id ≠ 8 := by
  simp only [State.accepts]
  decide +kernel

/-- R97: with the short mark set a retarget follows the retirement: the grid's order is created at last. -/
theorem test_cancel_when_short :
    let s := onPlant (fun p => { duty p with short := true, heldGrid := some (.compress, 20000) }) plant
    (result (exec (.cancelService (fr .pa [(.u2, 7)])) s)).map (fun t =>
      ((t.plant.ord 0).cause, t.plant.short, (t.plant.liveOf .grid).length)) = some (some .withdrawn, false, 1) := by
  decide +kernel

theorem witness_CancelRetiresTheOrder_linked : ((onPlant duty plant).received .pa).plant.linked := by
  simp only [Plant.linked, forall_train, forall_gate, exists_train]
  decide +kernel

/-- The most the fields carry, in SETUP and in TRIP. -/
theorem witness_SeedReplacesTheAccount :
    ∀ m ∈ [PlantMode.setup, .hold, .normal, .trip],
      (inMode m plant).accepts 7#8 (fr .pb [(.u4, 4294967295), (.u4, 1001), (.u4, 1000), (.u4, 0)])
        ∧ isPlant .pb = true ∧ (inMode m plant).prot.mode = m
        ∧ readFields [.u4, .u4, .u4, .u4] (fr .pb [(.u4, 4294967295), (.u4, 1001), (.u4, 1000), (.u4, 0)]).payload
          = some [4294967295, 1001, 1000, 0] := by
  simp only [State.accepts]
  decide +kernel

/-- No train 8; X3 is PB's; X0 IDLE and in FAULT; a LOST train of PB handed to PA, one of PA, one of no owner, one not
LOST. -/
theorem witness_ClearTrainAndHandover :
    (∀ n ∈ [(8 : Int), 7, 4], ∀ code ∈ [11#8, 13#8], plant.accepts code (fr .pa [(.u1, n)])
        ∧ readFields [.u1] (fr .pa [(.u1, n)]).payload = some [n])
      ∧ trainOf? 8 = none ∧ trainOf? 7 = some .x3 ∧ trainOf? 4 = some .x0
      ∧ (plant.store.cfg.owner.get .x3).port? ≠ some .pa ∧ ((plant.received .pa).plant.train .x0).state ≠ .fault
      ∧ (withTrain .x0 (train .fault) plant).accepts 11#8 (fr .pa [(.u1, 4)])
      ∧ (((withTrain .x0 (train .fault) plant).received .pa).plant.train .x0).state = .fault
      ∧ (((withTrain .x0 (train .fault) plant).received .pa).plant.train .x0).staged = none
      ∧ plant.store.cfg.owner.get .x0 = ownerOfPort .pa ∧ State.reset.store.cfg.owner.get .x0 = .nobody
      ∧ plant.store.cfg.owner.get .x3 ≠ ownerOfPort .pa ∧ plant.store.cfg.owner.get .x3 ≠ .nobody
      ∧ ((plant.received .pa).plant.train .x3).state ≠ .lost
      ∧ (withTrain .x3 (train .lost) plant).accepts 13#8 (fr .pa [(.u1, 7)])
      ∧ (((withTrain .x3 (train .lost) plant).received .pa).plant.train .x3).state = .lost := by
  simp only [State.accepts]
  decide +kernel

theorem witness_ClearTrainAndHandover_linked : ((withTrain .x3 (train .lost) plant).received .pa).plant.linked := by
  simp only [Plant.linked, forall_train, forall_gate, exists_train]
  decide +kernel

/-! ## Modes, inhibits and windows -/

theorem witness_EntryIntoHold :
    (onPlant duty plant).prot.mode = .normal ∧ (onPlant duty plant).plant.linked ∧ (onPlant duty plant).targetsHanded := by
  refine ⟨by decide +kernel, duty_linked, by decide +kernel, by decide +kernel, by decide +kernel, ?_⟩
  intro g h
  cases h

theorem plant_handed (m : PlantMode) : (inMode m plant).targetsHanded := by
  refine ⟨by cases m <;> decide +kernel, rfl, rfl, fun g h => ?_⟩
  cases h

/-- No order live, in TRIP and in SETUP. -/
theorem witness_EntryIntoHold_fresh :
    ∀ m ∈ [PlantMode.trip, .setup], ((inMode m plant).prot.mode = .trip ∨ (inMode m plant).prot.mode = .setup)
      ∧ (inMode m plant).plant.linked ∧ (inMode m plant).targetsHanded
      ∧ ∀ e, ((inMode m plant).plant.ord e).state.live = false := by
  intro m h
  refine ⟨?_, plant_linked, plant_handed m, (by decide +kernel : ∀ e, (plant.plant.ord e).state.live = false)⟩
  revert m
  decide

/-- From HOLD with an order CURRENT, and from SETUP with none live. -/
theorem witness_EntryIntoNormal :
    ((inMode .hold (onPlant duty plant)).plant.linked ∧ (inMode .hold (onPlant duty plant)).targetsHanded
        ∧ (inMode .hold (onPlant duty plant)).prot.mode = .hold)
      ∧ (inMode .setup plant).plant.linked ∧ (inMode .setup plant).targetsHanded
      ∧ (inMode .setup plant).prot.mode = .setup ∧ ∀ e, ((inMode .setup plant).plant.ord e).state.live = false := by
  refine ⟨⟨duty_linked, ⟨by decide +kernel, rfl, rfl, fun g h => ?_⟩, rfl⟩, plant_linked, plant_handed _, rfl, by decide +kernel⟩
  cases h

theorem witness_EntryIntoTrip : (onPlant duty plant).plant.linked := duty_linked

theorem witness_HoldResetTripAndResume :
    ((fr .pa []).payload = [] ∧ isPlant (fr .pa []).port = true)
      ∧ (∀ m ∈ [PlantMode.setup, .normal, .hold, .trip], (inMode m plant).accepts 8#8 (fr .pa [])
        ∧ (inMode m plant).accepts 9#8 (fr .pa []) ∧ (inMode m plant).accepts 10#8 (fr .pa []))
      ∧ (inMode .hold plant).prot.mode = .hold ∧ (inMode .hold plant).prot.lines.prot.hrq.active = false
      ∧ (withLine (.prot .hrq) (inMode .hold plant)).prot.lines.prot.hrq.active = true
      ∧ (withLine (.prot .hrq) (inMode .hold plant)).accepts 9#8 (fr .pa []) := by
  simp only [State.accepts]
  decide +kernel

/-- The defaults are not validated; a floor at the ceiling fails; 2 * 22,500 kW = 45,000 kW passes. -/
theorem witness_StartPlantAndItsChecks :
    ((fr .pb []).payload = [] ∧ isPlant (fr .pb []).port = true ∧ (inMode .setup plant).accepts 18#8 (fr .pb []))
      ∧ startCheck plant.store.unvalidated plant.store.cfg ≠ none ∧ startCheck false plant.store.cfg = none
      ∧ startCheck false { plant.store.cfg with minLoad := ⟨22500, 25000⟩ } = none
      ∧ startCheck false { plant.store.cfg with minLoad := ⟨22501, 25000⟩ } ≠ none
      ∧ startCheck false { plant.store.cfg with mFloor := 40000000 } ≠ none := by
  simp only [State.accepts]
  decide +kernel

/-- The first and last latch and the first number that is none. -/
theorem witness_ClearInhibitRequest :
    (∀ n ∈ [(0 : Int), 1, 2, 4, 5], plant.accepts 12#8 (fr .pa [(.u1, n)])
        ∧ readFields [.u1] (fr .pa [(.u1, n)]).payload = some [n])
      ∧ isPlant .pa = true ∧ (2 + storeCode .s0 : Int) = 2 ∧ (2 + storeCode .s2 : Int) = 4 := by
  simp only [State.accepts]
  decide +kernel

theorem witness_WarmRestartRequest :
    ((fr .pa []).payload = [] ∧ isPlant (fr .pa []).port = true)
      ∧ (plant.accepts 19#8 (fr .pa []) ∧ plant.prot.mode = .normal)
      ∧ ((inMode .trip plant).accepts 19#8 (fr .pa []) ∧ (inMode .trip plant).prot.mode ≠ .normal) := by
  simp only [State.accepts]
  decide +kernel

/-! ## Configuration -/

/-- A write's frame. -/
def write (code index value : Int) : Frame := fr .pa [(.u1, code), (.u1, index), (.u4, value)]

/-- What a write's payload holds. -/
def written (f : Frame) : Option (List Int) := readFields [.u1, .u1, .u4] f.payload

/-- Table 11-1, at the ends of its codes and of some of its ranges. -/
theorem test_item_rows :
    [0, 1, 12, 21, 33, 34].map (fun c => (List.range 17).filter fun i => itemExists c i)
        = [[], [0], [0, 1, 2], [0, 1, 2, 3, 4, 5, 6, 7], [0, 1], []]
      ∧ [(3, 19), (3, 20), (3, 400), (3, 401), (29, 1), (29, 255), (31, 2), (31, 3)].map (fun x => itemInRange x.1 x.2)
        = [false, true, true, false, false, true, true, false] := by decide +kernel

/-- The last item and its bounds; the index past it; an owner NONE; the value held. -/
theorem witness_ConfigurationWrites :
    (itemExists 33 1 = true ∧ itemExists 33 2 = false ∧ itemExists 34 0 = false ∧ itemExists 0 0 = false)
      ∧ (∀ x ∈ [((12 : Int), (2 : Int), (0 : Int)), (21, 7, 2), (21, 7, 3), (32, 15, 0), (33, 1, 63), (33, 1, 64), (33, 2, 0)],
        State.reset.accepts 15#8 (write x.1 x.2.1 x.2.2) ∧ written (write x.1 x.2.1 x.2.2) = some [x.1, x.2.1, x.2.2])
      ∧ State.reset.prot.mode = .setup ∧ plant.prot.mode ≠ .setup ∧ plant.accepts 15#8 (write 12 2 0)
      ∧ itemExists 21 7 = true ∧ itemInRange 21 2 = true ∧ itemInRange 21 3 = false
      ∧ State.reset.store.cfg.read 21 7 = 2 ∧ (inMode .setup plant).store.cfg.read 21 7 ≠ 2
      ∧ (inMode .setup plant).accepts 15#8 (write 21 7 2)
      ∧ (((inMode .setup plant).received .pa).plant.train (trainAt 7)).staged = none := by
  simp only [State.accepts]
  decide +kernel

/-- A write in progress that PA waits for. -/
def storing : State :=
  let s := State.reset
  { (s.setAnswer .pa (.awaited someKey)) with store := { s.store with write := some (.defaults, .pa) } }

theorem witness_StoringTheConfiguration :
    ((fr .pa []).payload = [] ∧ isPlant (fr .pa []).port = true ∧ State.reset.accepts 17#8 (fr .pa [])
        ∧ State.reset.prot.mode = .setup ∧ State.reset.store.write = none ∧ State.reset.supply = .running)
      ∧ (plant.accepts 17#8 (fr .pa []) ∧ plant.prot.mode ≠ .setup)
      ∧ (storing.accepts 17#8 (fr .pb []) ∧ storing.store.write ≠ none)
      ∧ (storing.supply = .running ∧ storing.store.write = some (.defaults, .pa)
        ∧ (storing.port .pa).answer = .awaited someKey) := by
  simp only [State.accepts]
  decide +kernel

theorem witness_ResetAndSupply :
    State.reset.store.write = none ∧ storing.store.write = some (.defaults, .pa) ∧ State.reset.supply ≠ .off
      ∧ ({ State.reset with supply := .off } : State).supply = .off
      ∧ ({ State.reset with supply := .held } : State).supply ≠ .running
      ∧ Instr.timebaseSecond ≠ .coldReset ∧ Instr.timebaseSecond ≠ .lossOfPower ∧ Instr.timebaseSecond ≠ .rstnLow := by
  decide +kernel

/-- R23, R24, R180: the headroom of the reset state is that of an empty account under the defaults. -/
theorem test_reset_headroom : State.reset.recomputeHeadroom.head = State.reset.head := by decide +kernel

/-! ## Time, the book and the Sweep -/

/-- The last interval and second that are taken and the first that are not; a trim of 10 s and of 11 s. -/
theorem witness_SyncTimeRequest :
    (∀ x ∈ [((4000000000 : Int), (899 : Int)), (0, 900), (4000000001, 0)],
        State.reset.accepts 32#8 (fr .mk [(.u4, x.1), (.u2, x.2)])
          ∧ readFields [.u4, .u2] (fr .mk [(.u4, x.1), (.u2, x.2)]).payload = some [x.1, x.2])
      ∧ State.reset.tb.synced = false ∧ plant.tb = ⟨true, 1000, 0⟩
      ∧ (∀ x ∈ [((1000 : Int), (10 : Int)), (1000, 11), (1001, 0)],
        plant.accepts 32#8 (fr .mk [(.u4, x.1), (.u2, x.2)])
          ∧ readFields [.u4, .u2] (fr .mk [(.u4, x.1), (.u2, x.2)]).payload = some [x.1, x.2]) := by
  simp only [State.accepts]
  decide +kernel

/-- The first interval beyond the lead time, at the bounds of each value. -/
theorem witness_MarketChanges :
    (plant.accepts 34#8 (fr .mk [(.u4, 1003), (.s4, -1000000), (.u4, 1000000), (.u4, 0)])
        ∧ readFields [.u4, .s4, .u4, .u4] (fr .mk [(.u4, 1003), (.s4, -1000000), (.u4, 1000000), (.u4, 0)]).payload
          = some [1003, -1000000, 1000000, 0])
      ∧ (plant.accepts 35#8 (fr .mk [(.u4, 1191), (.s4, -2000000), (.s4, -1000000), (.s4, 1000000)])
        ∧ readFields [.u4, .s4, .s4, .s4] (fr .mk [(.u4, 1191), (.s4, -2000000), (.s4, -1000000), (.s4, 1000000)]).payload
          = some [1191, -2000000, -1000000, 1000000])
      ∧ (plant.accepts 36#8 (fr .mk [(.u4, 4294967295)])
        ∧ readFields [.u4] (fr .mk [(.u4, 4294967295)]).payload = some [4294967295]) := by
  simp only [State.accepts]
  decide +kernel

/-- A slot of interval 1003 that has counted 15 revisions, with a window that has since come to forbid its discharge. -/
def worn : State :=
  let s := plant.setSlot 1003 ⟨.firm, 1003, ⟨100, 0, 0⟩, 15, none, none, none⟩
  { s with book := { s.book with windows := s.book.windows.set 0 ⟨1003, 0, true, false, false, false, true, false⟩ } }

/-- R48: a COMMIT of the values held is accepted all the same, one of other values refused REVISION_LIMIT, and a WITHDRAW,
which no revision limits, judged as any other. -/
theorem test_equal_values_pass_the_later_checks :
    [Instr.commit (fr .mk [(.u4, 1003), (.s4, 100), (.u4, 0), (.u4, 0)]),
        .adjust (fr .mk [(.u4, 1003), (.s4, 0), (.s4, 0), (.s4, 0)]),
        .commit (fr .mk [(.u4, 1003), (.s4, 101), (.u4, 0), (.u4, 0)])].map
        (fun i => (result (exec i worn)).map fun t => match (t.port .mk).answer with
          | .sending _ a => some a.status
          | .none | .awaited _ => none)
      = [some (some .ok), some (some .ok), some (some .revisionLimit)] := by decide +kernel

/-- R46: a COMMIT of zeros makes the slot OPEN (an UNSEEDED part judges a book of zeros sound). -/
theorem test_commit_of_zeros_opens :
    (result (exec (.commit (fr .mk [(.u4, 1003), (.s4, 0), (.u4, 0), (.u4, 0)])) plant)).map
        (fun t => ((t.book.slot 1003).state, (t.book.slot 1003).tag))
      = some (.opened, 1003) := by decide +kernel

/-- Day 9 ends at interval 959, day 11 at 1151, within the book, and day 12 beyond it; offsets 95 and 96. -/
theorem witness_OpeningAndStagingADay :
    (∀ d ∈ [(9 : Int), 10, 11, 12], plant.accepts 37#8 (fr .mk [(.u4, d)])
        ∧ readFields [.u4] (fr .mk [(.u4, d)]).payload = some [d])
      ∧ plant.book.page = none ∧ (withPage 11 plant).book.page ≠ none
      ∧ ∀ o ∈ [(0 : Int), 95, 96], plant.accepts 38#8 (fr .mk [(.u1, o), (.s4, 0), (.u4, 0), (.u4, 0)])
        ∧ (withPage 11 plant).accepts 38#8 (fr .mk [(.u1, o), (.s4, 0), (.u4, 0), (.u4, 0)])
        ∧ readFields [.u1, .s4, .u4, .u4] (fr .mk [(.u1, o), (.s4, 0), (.u4, 0), (.u4, 0)]).payload
          = some [o, 0, 0, 0] := by
  simp only [State.accepts]
  decide +kernel

theorem witness_CloseDayRequests :
    (fr .mk []).payload = []
      ∧ (∀ c ∈ [0#8, 1#8], plant.accepts 39#8 { fr .mk [] with payload := [c] }
        ∧ (withPage 11 plant).accepts 39#8 { fr .mk [] with payload := [c] })
      ∧ plant.book.page = none ∧ (withPage 11 plant).book.page = some ⟨11, List.replicate 96 .zero⟩ := by
  simp only [State.accepts]
  decide +kernel

/-- A SET_WINDOW frame: window, base, width, set, enable. -/
def window (n base width set enable : Int) : Frame :=
  fr .pa [(.u1, n), (.u4, base), (.u1, width), (.u1, set), (.u1, enable)]

/-- The last window and bounds that are taken, each first one that is not, and the read. -/
theorem witness_BlackoutWindows :
    ∀ x ∈ [((3 : Int), (7 : Int), (15 : Int), (1 : Int)), (4, 7, 15, 1), (3, 8, 15, 1), (3, 7, 16, 1), (3, 7, 15, 2),
        (254, 0, 0, 0), (255, 8, 16, 2)],
      plant.accepts 14#8 (window x.1 1000 x.2.1 x.2.2.1 x.2.2.2)
        ∧ readFields [.u1, .u4, .u1, .u1, .u1] (window x.1 1000 x.2.1 x.2.2.1 x.2.2.2).payload
          = some [x.1, 1000, x.2.1, x.2.2.1, x.2.2.2] := by
  simp only [State.accepts]
  decide +kernel

/-- R53: a window of width 3 at base 1001 covers 1000..1007. -/
theorem test_window_covers :
    let w : Window := ⟨1001, 3, true, false, false, false, true, false⟩
    w.covers 999 = false ∧ w.covers 1000 = true ∧ w.covers 1007 = true ∧ w.covers 1008 = false := by decide +kernel

theorem witness_HeadroomEffectiveValuesAndSlotSteps :
    ((0 : Int) ≤ Vals.zero.up ∧ (0 : Int) ≤ Vals.zero.dn)
      ∧ (0 < plant.store.cfg.yd ∧ 0 < plant.store.cfg.cc) ∧ plant.tb.second ≤ 899
      ∧ ({ plant with tb := ⟨true, 1000, 899⟩ } : State).tb.second ≤ 899 := by decide +kernel

/-- R38, R53: with 100 kWh of headroom and rated power, 200 kWh are cut to 100 and leave no reserve up; a window that
forbids DISCHARGE leaves neither. -/
theorem test_effective_values :
    let h : Headroom := { plant.head with d := 100, c := 50, pxCap := 1000, pcCap := 1000 }
    let w : Window := ⟨1000, 0, true, false, false, false, true, false⟩
    let s : State := { plant with head := h }
    let x : State := { s with book := { s.book with windows := s.book.windows.set 2 w } }
    [s, x].map (fun y => let f := y.effective 1000 ⟨200, 700, 300⟩; (f.e, f.up, f.dn, f.curtailment))
      = [(100, 0, 200, 100), (0, 400, 200, 200)] := by decide +kernel

/-- R36: a sale of 1,000,000 kWh from an account that holds 1,000 kg breaks a condition, and one of zeros does not. -/
theorem witness_AcceptanceRule :
    plant.judge [(1003, ⟨1000000, 0, 0⟩)] ≠ none ∧ plant.judge [(1003, .zero)] = none := by decide +kernel

/-! ## The reserve -/

/-- R82: -800 kW of the book and an activation of 1,100 kW leave a GRID target of 300 kW; at equal powers none is left. -/
theorem test_netting :
    net (-800) 1100 = (none, some (.expand, 300)) ∧ net 500 (-500) = (none, none)
      ∧ net 500 200 = (some (.expand, 500), some (.expand, 200)) := by decide

theorem witness_NettingAddsUp :
    (0 : Int) ≤ 500 ∧ (0 : Int) ≤ 0 ∧ (0 : Int) < 500 ∧ (-500 : Int) < 0 ∧ Int.natAbs (-500) ≤ Int.natAbs 500
      ∧ net 500 200 = (some (.expand, 500), some (.expand, 200)) := by decide

theorem witness_SetpointsMakeTheTarget :
    0 < Cfg.defaults.rating.get .expand ∧ 0 < ordersCalled Cfg.defaults (some (.expand, 100001))
      ∧ 2 * Cfg.defaults.minLoad.get .expand ≤ Cfg.defaults.rating.get .expand
      ∧ 100001 ≤ 4 * Cfg.defaults.rating.get .expand := by decide +kernel

/-- A held target of 100,000 kW, and an order of the schedule from before. -/
theorem witness_RetargetMeetsTheTargets : ({ duty plant.plant with heldBook := some (.expand, 100000) } : Plant).linked :=
  duty_linked

/-- The bounds of the request and the first value beyond. -/
theorem witness_ActivationAndWithholding :
    ∀ v ∈ [(1000000 : Int), -1000000, 1000001, -1000001, 0], plant.accepts 48#8 (fr .gr [(.s4, v)])
      ∧ readFields [.s4] (fr .gr [(.s4, v)]).payload = some [v] := by
  simp only [State.accepts]
  decide +kernel

/-! ## Cause flags -/

/-- Table 10-5: PA's causes are bits 0..8, GR's 0..2 and 4. -/
theorem witness_CauseFlags :
    (∀ x ∈ [((.pa : Port), (511 : Int)), (.pa, 512), (.gr, 23), (.gr, 8)], ∀ code ∈ [64#8, 65#8],
        plant.accepts code (fr x.1 [(.u2, x.2)]) ∧ readFields [.u2] (fr x.1 [(.u2, x.2)]).payload = some [x.2])
      ∧ BitVec.ofInt 16 511 &&& ~~~causeBits .pa = 0#16 ∧ BitVec.ofInt 16 512 &&& ~~~causeBits .pa ≠ 0#16
      ∧ BitVec.ofInt 16 23 &&& ~~~causeBits .gr = 0#16 ∧ BitVec.ofInt 16 8 &&& ~~~causeBits .gr ≠ 0#16
      ∧ causeBit .pa .windowHit = some 8 ∧ causeBit .mk .windowHit = none := by
  simp only [State.accepts]
  decide +kernel

/-! ## Lines and samples -/

theorem witness_EveryStepEndsSo :
    (Port.mk : Port) ≠ (fr .pa []).port := by decide

theorem witness_WellheadSampleCounts : plant.supply = .running := by decide

/-- Table 1-2: from WA low and WB low, WA rising counts +1 and WB rising -1. -/
theorem test_wellhead_counts :
    let s : State := { plant with inv := { plant.inv with reference := some (false, false) } }
    ((result (exec (.wellheadSample true false) s)).map (·.inv.netCount) = some 1)
      ∧ (result (exec (.wellheadSample false true) s)).map (·.inv.netCount) = some (-1) := by decide +kernel

theorem witness_DiscreteInputs :
    plant.supply = .running
      ∧ (∀ m ∈ [PlantMode.setup, .normal, .hold, .trip],
        ((withLine (.prot .est) (inMode m plant)).prot.lines.prot.get .est).active = true
          ∧ (withLine (.prot .hrq) (inMode m plant)).prot.lines.prot.hrq.active = true)
      ∧ (plant.prot.lines.prot.get .gof).active = false := by decide +kernel

/-- A store isolated and not; an inhibit latched and not. -/
theorem witness_InhibitsIsolationAndFeedback :
    (onPlant duty plant).plant.linked
      ∧ ((withLine (.prot .phi) (onPlant duty plant)).prot.lines.prot.phi.active = true
        ∧ (withLine (.prot .phi) (onPlant duty plant)).prot.chargeInhibit = false)
      ∧ ((withLine (.prot .plo) (onPlant duty plant)).prot.lines.prot.plo.active = true
        ∧ (withLine (.prot .plo) (onPlant duty plant)).prot.dischargeInhibit = false)
      ∧ ((withLine (.prot .ts0) (onPlant duty plant)).prot.lines.prot.get .ts0).active = true
      ∧ (withLine (.prot .ts0) (onPlant duty plant)).prot.isolated.get .s0 = false
      ∧ ({ plant.prot with isolated := ⟨true, false, false⟩ } : Protection).isolated.get .s0 = true
      ∧ ({ plant.prot with chargeInhibit := true } : Protection).chargeInhibit = true
      ∧ ({ plant.prot with dischargeInhibit := true } : Protection).dischargeInhibit = true
      ∧ ((onPlant duty plant).plant.ord 0).state = .current ∧ ((onPlant duty plant).plant.ord 0).store = .s0
      ∧ ((onPlant (stagedDuty 0) plant).plant.ord 0).state = .staged
      ∧ ((onPlant (stagedDuty 0) plant).plant.ord 0).origin = .service :=
  ⟨duty_linked, by decide +kernel⟩

/-- R126: a SERVICE order that is READY, and one that is WAITING at the gate, stay so; the one CURRENT retires ISOLATED. -/
theorem test_isolation_keeps_service_orders :
    let p := ((duty plant.plant).setOrd 1 (order .ready)).setOrd 2 (order .waiting)
    let q : Plant := { (p.modGate (.s0, .expand) fun g => { g with wait := [2] }) with ready := [1] }
    let t := (withLine (.prot .ts0) (onPlant (fun _ => q) plant)).lineChanged (.prot .ts0)
    ([0, 1, 2].map fun e => (t.plant.ord e).state) = [.retired, .ready, .waiting]
      ∧ (t.plant.gate (.s0, .expand)).wait = [2] ∧ t.plant.ready = [1] := by decide +kernel

/-- S0's gates shut and held by none, with an order WAITING at its draw gate. -/
def shut : Plant :=
  ((plant.plant.setOrd 0 (order .waiting)).modGate (.s0, .compress) fun g => { g with isOpen := false }).modGate
    (.s0, .expand) fun g => { g with isOpen := false, wait := [0] }

/-- An ISOLATED store before its clearing. -/
theorem witness_ClearingAnIsolation :
    shut.linked ∧ (shut.gate (.s0, .expand)).isOpen = false ∧ (shut.gate (.s0, .expand)).holders = []
      ∧ (shut.gate (.s0, .compress)).isOpen = false ∧ (shut.gate (.s0, .compress)).holders = [] := by
  refine ⟨?_, by decide +kernel⟩
  simp only [Plant.linked, forall_train, forall_gate, exists_train]
  decide +kernel

/-- R127: above the floor of 0 (with no hysteresis) the draw gate opens and promotes the order; at the floor it stays shut. -/
theorem test_clearing_an_isolation :
    [1, 0].map (fun h =>
        let q := shut.unisolate { plant.env with heat := .all h } .s0
        ((q.gate (.s0, .expand)).isOpen, (q.ord 0).state, q.ready))
      = [(true, .ready, [0]), (false, .waiting, [])] := by decide +kernel

/-- A feedback line in each state of its train: R137's timer, R138's start, R139's timer, R140's stop. -/
theorem test_feedback_line :
    [(TrainState.idle, Reported.stopped, true), (.starting, .running, true), (.running, .running, false),
        (.stopping, .stopped, false), (.fault, .stopped, true)].map
        (fun x =>
          let s := withTrain .x0 { TrainRec.cold with state := x.1, reported := some x.2.1, fresh := true } plant
          let l : Line := .feedback .x0
          let u : State := { s with prot := { s.prot with lines := s.prot.lines.set l ⟨x.2.2, 0⟩ } }
          let r := (u.lineChanged l).plant.train .x0
          (r.state, r.feedback.isSome, r.inhibit.isSome, r.fresh))
      = [(.idle, true, false, true), (.running, false, false, false), (.running, true, false, true),
        (.idle, false, true, false), (.fault, false, false, true)] := by decide +kernel

/-! ## Seconds -/

theorem nothing_due (s : State) (h : s.plant.due = false ∧ (∀ e, (s.plant.ord e).budgetOut = false)
    ∧ (∀ i : Fin 8, (s.plant.train (trainAt i)).window ≠ some 0 ∧ (s.plant.train (trainAt i)).inhibit ≠ some 0
      ∧ (s.plant.train (trainAt i)).feedback ≠ some 0)
    ∧ ∀ i : Fin 4, s.prot.timers.get (portAt i) ≠ .running 0) : s.nothingDue :=
  ⟨h.1, h.2.1, forall_train.2 h.2.2.1, forall_port.2 h.2.2.2⟩

/-- The last second before the turn; a wait of 59 s for a GRID target below the minimum load. -/
def late : State :=
  let s := onPlant (fun p => { p with heldGrid := some (.expand, 14999) }) plant
  { s with tb := ⟨true, 1000, 898⟩, res := { s.res with gridTarget := some (.expand, 14999), wait := 59 } }

theorem late_waits : late.nothingDue ∧ late.plant.placed = late.plant.indication late.env
    ∧ late.tb.synced = true ∧ late.tb.second < 899 ∧ late.prot.mode = .normal ∧ late.res.wait = 59
    ∧ late.res.gridTarget = some (.expand, 14999) ∧ 14999 < late.store.cfg.minLoad.get .expand
    ∧ (late.causes .gr).enables.getLsbD 1 = true :=
  ⟨nothing_due _ (by decide +kernel), by decide +kernel⟩

/-- Unsynchronised; synchronised at second 898, counting and not; an ACTIVE slot. -/
theorem witness_TimebaseSeconds :
    (State.reset.supply = .running ∧ State.reset.nothingDue ∧ State.reset.tb.synced = false)
      ∧ (late.supply = .running ∧ late.nothingDue ∧ late.tb.synced = true ∧ late.tb.second < 899
        ∧ late.plant.placed = late.plant.indication late.env ∧ late.res.gridTarget = some (.expand, 14999))
      ∧ (plant.supply = .running ∧ plant.nothingDue ∧ plant.tb.second < 899
        ∧ plant.plant.placed = plant.plant.indication plant.env ∧ plant.res.gridTarget = none)
      ∧ (((plant.activate 1000).book.slot 1000).state = .active
        ∧ ((plant.activate 1000).book.slot 1000).eff.isSome = true) :=
  ⟨⟨by decide, nothing_due _ (by decide +kernel), by decide⟩,
   ⟨by decide, late_waits.1, by decide, by decide, late_waits.2.1, by decide⟩,
   ⟨by decide, nothing_due _ (by decide +kernel), by decide, by decide +kernel, by decide⟩, by decide +kernel⟩

/-- The last second of interval 1000, which is ACTIVE. -/
def turning : State := { (plant.activate 1000) with tb := ⟨true, 1000, 899⟩ }

theorem witness_TurnOfTheInterval :
    turning.supply = .running ∧ turning.nothingDue ∧ turning.tb.synced = true ∧ 899 ≤ turning.tb.second
      ∧ turning.sweep.base ≠ turning.tb.current + 1 ∧ (turning.book.slot turning.tb.current).state = .active
      ∧ (turning.book.slot turning.tb.current).eff.isSome = true ∧ plant.tb.second < 899 :=
  ⟨by decide +kernel, nothing_due _ (by decide +kernel), by decide +kernel⟩

/-- A sweep at the last of its 192 steps, one whose base is past, and one that is IDLE. -/
def sweeping (base pointer : Nat) : State := { plant with sweep := ⟨true, base, pointer, none, 65535⟩ }

/-- A RUNNING sweep in a second within an interval and in one that turns it. -/
theorem witness_TurnOfTheInterval_sweep :
    (let s := sweeping 1000 5;
      s.supply = .running ∧ s.nothingDue ∧ s.tb.synced = true ∧ s.tb.second < 899
        ∧ s.plant.placed = s.plant.indication s.env)
      ∧ (let s : State := { sweeping 1000 5 with tb := ⟨true, 1000, 899⟩ };
        s.supply = .running ∧ s.nothingDue ∧ s.sweep.base ≠ s.tb.current + 1 ∧ s.sweep.running = true) :=
  ⟨⟨by decide, nothing_due _ (by decide +kernel), by decide, by decide, by decide +kernel⟩,
   ⟨by decide, nothing_due _ (by decide +kernel), by decide⟩⟩

/-- R68, R71: a second within an interval takes the step at the pointer, or starts the cycle at the current interval. -/
theorem test_a_second_steps_the_sweep :
    [(1000, 5), (999, 5), (1000, 191)].map (fun x => (result (exec .timebaseSecond (sweeping x.1 x.2))).map fun t =>
        (t.sweep.base, t.sweep.pointer, t.sweep.cycles))
      = [some (1000, 6, 65535), some (1000, 0, 65535), some (1000, 0, 0)] := by decide +kernel

theorem witness_SweepCommandsAndSteps :
    (plant.accepts 41#8 (fr .mk []) ∧ (fr .mk []).payload = [] ∧ State.reset.accepts 41#8 (fr .mk []))
      ∧ plant.sweep.running = false ∧ (sweeping 999 5).sweep.running = true
      ∧ (sweeping 999 5).sweep.base ≠ (sweeping 999 5).tb.current
      ∧ (sweeping 1000 191).sweep.base = (sweeping 1000 191).tb.current
      ∧ (sweeping 1000 190).sweep.pointer < 191 := by
  simp only [State.accepts]
  decide +kernel

theorem witness_NamedSeconds :
    ((sweeping 1000 191).supply = .running ∧ (sweeping 1000 191).nothingDue
        ∧ (sweeping 1000 191).plant.placed = (sweeping 1000 191).plant.indication (sweeping 1000 191).env
        ∧ (sweeping 1000 191).tb.synced = true ∧ (sweeping 1000 191).tb.second < 899
        ∧ 191 ≤ (sweeping 1000 191).sweep.pointer)
      ∧ (late.supply = .running ∧ late.nothingDue ∧ late.plant.placed = late.plant.indication late.env
        ∧ late.res.wait = 59) :=
  ⟨⟨by decide, nothing_due _ (by decide +kernel), by decide +kernel⟩, by decide, late_waits.1, late_waits.2.1, by decide⟩

/-! ## The accounting second -/

/-- The second that loses the meter and the second that brings it back, and the ones before them. -/
theorem witness_AccountingSecondMovesTheAccount :
    ∀ x ∈ [(MassSource.wellhead, false, 2, 0), (.wellhead, false, 1, 0), (.wellhead, true, 2, 0), (.trainSum, true, 0, 59),
        (.trainSum, true, 0, 58), (.trainSum, false, 0, 59)],
      let v : Inventory := { plant.inv with
        source := x.1, secondValid := x.2.1, invalidStreak := x.2.2.1, cleanStreak := x.2.2.2 }
      ({ plant with inv := v } : State).supply = .running ∧ v.seeded = true
        ∧ ((v.source = .wellhead ∧ v.secondValid = false ∧ 3 ≤ v.invalidStreak + 1) ↔ x = (.wellhead, false, 2, 0))
        ∧ ((v.source = .trainSum ∧ v.secondValid = true ∧ 60 ≤ v.cleanStreak + 1) ↔ x = (.trainSum, true, 0, 59)) := by
  decide +kernel

theorem witness_AccountingSecond_hasWellhead :
    Claims.hasWellhead plant.inv
      ∧ Claims.hasWellhead { plant.inv with source := .trainSum, cleanStreak := 59 }
      ∧ ¬ Claims.hasWellhead { plant.inv with source := .trainSum, cleanStreak := 58 } := by
  simp only [Claims.hasWellhead]
  decide +kernel

/-- R6: 2 counts of 1,000 g with a remainder of 999 g are 2 kg, with 999 g left over. -/
theorem test_accounting_second_keeps_grams :
    let s : State := { plant with inv := { plant.inv with netCount := 2, gramRem := 999 } }
    (result (exec .accountingSecond s)).map (fun t => (t.inv.mass, t.inv.gramRem)) = some (1002, 999) := by decide +kernel

/-- The last second of a window of 60 s, the one before it, and the accounts that do not count. -/
theorem witness_ReconciliationWindow :
    (Inventory.cold.seeded = false ∧ ({ plant.inv with source := .trainSum } : Inventory).source = .trainSum)
      ∧ (plant.inv.seeded = true ∧ plant.inv.source = .wellhead)
      ∧ ({ plant.inv with windowSeconds := 58 } : Inventory).windowSeconds + 1 < Cfg.defaults.window
      ∧ Cfg.defaults.window ≤ ({ plant.inv with windowSeconds := 59 } : Inventory).windowSeconds + 1
      ∧ 0 ≤ plant.inv.throughput := by decide

/-- R16, R15, R11: a window whose sums differ by 100,000 kg, as it fills in NORMAL, enters HOLD and raises RECON; heat that
a draw takes to 0 raises HEAT_LIMIT; another second raises nothing. -/
theorem test_what_an_accounting_second_raises :
    let drawn : PerTrain (PerStore Nat) := (PerTrain.all (.all 0)).set .x0 ⟨10, 0, 0⟩
    [({ plant with inv := { plant.inv with windowSeconds := plant.store.cfg.window - 1, sumWellhead := 100000 } } : State),
        { plant with inv := { plant.inv with heat := ⟨10, 0, 0⟩, acc := drawn }
                     store := { plant.store with cfg := { plant.store.cfg with hd := 1 } } },
        plant].map
        (fun s => (result (exec .accountingSecond s)).map fun t =>
          (t.prot.mode, (t.causes .mk).flags, (t.causes .pa).flags &&& 0x30#16))
      = [some (.hold, 0x14#16, 0x20#16), some (.normal, 0#16, 0x10#16), some (.normal, 0#16, 0#16)] := by decide +kernel

theorem witness_GatesFollowTheHeat :
    (onPlant duty plant).plant.linked ∧ (onPlant duty plant).env.heat.get .s0 = 0
      ∧ State.reset.env.heat.get .s0 = State.reset.env.cfg.capacity.get .s0
      ∧ ((onPlant duty plant).plant.ord 0).state = .current
      ∧ (((onPlant duty plant).plant.evaluateGates (onPlant duty plant).env).ord 0).state ≠ .current :=
  ⟨duty_linked, by decide +kernel⟩

/-- An order that an evaluation ends, and a gate that it opens, the orders at it in their places. -/
theorem witness_GatesFollowTheHeat_ends :
    Claims.ends (duty plant.plant) plant.env 0 ∧ (crowded plant.plant).linked ∧ (crowded plant.plant).ranked
      ∧ (shut.gate (.s0, .expand)).isOpen = false
      ∧ ((shut.evaluateGates { plant.env with heat := .all 1 }).gate (.s0, .expand)).isOpen = true :=
  ⟨by simp only [Claims.ends]; decide +kernel, crowded_linked, crowded_ranked, by decide +kernel⟩

/-- R123, R124: heat 0 retires order 0 HEAT_EXHAUSTED and stops X0, and its permit, at a gate that shuts, promotes nothing;
heat above the floor reopens a gate with one outlet, which promotes one order. -/
theorem test_gates_at_their_limits :
    let p := crowded plant.plant
    let closed := p.modGate (.s0, .expand) fun g => { g with isOpen := false }
    [(p, 0), (p, 1), (closed, 1), ((closed.retireOne plant.env.cfg 0 .withdrawn), 1)].map
        (fun x =>
          let q := x.1.evaluateGates { plant.env with heat := .all x.2 }
          ((q.ord 0).cause, (q.train .x0).state, (q.gate (.s0, .expand)).wait))
      = [(some .heatExhausted, .stopping, [2, 3]), (none, .running, [2, 3]), (none, .running, [2, 3]),
        (some .withdrawn, .stopping, [3])] := by decide +kernel

/-! ## Timers that have run out -/

/-- The duty of order 7 with its budget at 0, and X0 with its timers at 0 in each state. -/
theorem witness_BudgetsAndTrainTimersRunOut :
    ((duty plant.plant).linked ∧ ((duty plant.plant).ord 0).budgetOut = false)
      ∧ (let o : Order := { order .current with budget := some 0 }
        o.state.live = true ∧ o.origin = .service ∧ o.budget = some 0)
      ∧ (let s := onPlant duty plant
        let p := s.plant.modTrain .x0 fun r => { r with feedback := some 0 }
        (p.train .x0).state = .running ∧ (p.train .x0).feedback = some 0 ∧ plant.supply = .running)
      ∧ ∀ st ∈ [TrainState.starting, .stopping, .idle], ∀ n ∈ [0, 1],
        let r : TrainRec := { train st with window := some n, feedback := some n }
        (r.window = some 0 ↔ n = 0) ∧ (r.feedback ≠ some 0 ↔ n = 1) ∧ r.state = st :=
  ⟨⟨duty_linked, by decide +kernel⟩, by decide +kernel⟩

/-- The plant whose X0 is STARTING, STOPPING or IDLE with its timers at 0. -/
theorem witness_TrainTimers_linked :
    ((duty plant.plant).modTrain .x0 fun r => { r with state := .starting, window := some 0 }).linked
      ∧ ((duty plant.plant).modTrain .x0 fun r => { r with feedback := some 0 }).linked
      ∧ (plant.plant.modTrain .x0 fun _ => { train .stopping with window := some 0 }).linked
      ∧ (plant.plant.modTrain .x0 fun _ => { train .idle with feedback := some 0 }).linked := by
  simp only [Plant.linked, forall_train, forall_gate, exists_train]
  refine ⟨?_, ?_, ?_, ?_⟩ <;> decide +kernel

/-- Order 7 STAGED on X0: its gate shut; open; and its train not eligible (of a lost link). -/
theorem witness_RestartInhibitRunsOut :
    let s := onPlant (stagedDuty 0) plant
    let free := s.plant.modTrain .x0 fun x => { x with inhibit := none }
    let opened := s.plant.modGate (.s0, .expand) fun g => { g with isOpen := true }
    s.supply = .running ∧ (s.plant.train .x0).state = .idle ∧ (s.plant.train .x0).inhibit = some 0
      ∧ (s.plant.train .x0).staged = some 0 ∧ free.eligible s.env (s.plant.ord 0) .x0 = true
      ∧ s.plant.canGrant s.store.cfg (s.plant.ord 0).gate = false
      ∧ opened.canGrant s.store.cfg (s.plant.ord 0).gate = true
      ∧ free.eligible (withTimer .pa .expired s).env (s.plant.ord 0) .x0 = false
      ∧ ((stagedDuty 1 plant.plant).train .x0).inhibit ≠ some 0
      ∧ ((plant.plant.modTrain .x0 fun _ => { train .idle with inhibit := some 0 }).train .x0).staged = none := by
  decide +kernel

theorem witness_RestartInhibitRunsOut_linked :
    (stagedDuty 0 plant.plant).linked
      ∧ ((stagedDuty 0 plant.plant).modGate (.s0, .expand) fun g => { g with isOpen := true }).linked
      ∧ (plant.plant.modTrain .x0 fun _ => { train .idle with inhibit := some 0 }).linked := by
  simp only [Plant.linked, forall_train, forall_gate, exists_train]
  refine ⟨?_, ?_, ?_⟩ <;> decide +kernel

/-- Every link's timer at 0 and at 1; the other plant link lost before. -/
theorem witness_LinkTimerRunsOut :
    (onPlant duty plant).plant.linked
      ∧ ∀ p ∈ [Port.pa, .pb, .mk, .gr], ∀ n ∈ [0, 1],
        (withTimer p (.running n) (onPlant duty plant)).supply = .running
          ∧ ((withTimer p (.running n) (onPlant duty plant)).prot.timers.get p = .running 0 ↔ n = 0)
          ∧ ((withTimer .pb .expired (withTimer .pa (.running n) plant)).prot.timers.get .pb = .expired)
          ∧ otherPlant .pa = some .pb :=
  ⟨duty_linked, by decide +kernel⟩

/-! ## What every step keeps -/

/-- X0 at work for order 7, every line formed, and a second of the Timebase waiting. -/
def working : State := (onPlant duty plant).finish.withPending [.timebaseSecond]

theorem working_steps : (result (step working)).isSome = true := by decide +kernel

theorem witness_StepsKeepTheRanges : working.inRanges := by
  simp only [State.inRanges, forall_store]
  decide +kernel

theorem working_lines : working.linesSound := by
  simp only [State.linesSound, forall_train, forall_port]
  decide +kernel

theorem working_flags : working.flagsEnabled := by
  simp only [State.flagsEnabled, forall_port]
  decide +kernel

theorem witness_StepsKeepLinesAndFlags : working.linesSound ∧ working.flagsEnabled := ⟨working_lines, working_flags⟩

/-- The permit of X0 is asserted. -/
theorem test_working_permit : working.pins.permits.get .x0 = true ∧ working.pins.permits.get .x1 = false := by
  decide +kernel

theorem working_linked : working.plant.linked := by
  simp only [Plant.linked, forall_train, forall_gate, exists_train]
  decide +kernel

theorem witness_StepsKeepTheOrdersLinked : working.ordersSound := by
  refine ⟨working_linked, ?_, ?_, fun h => absurd h (by decide +kernel), fun h => absurd h (by decide +kernel)⟩
  · simp only [Plant.ranked, forall_gate]
    decide +kernel
  · simp only [Plant.withinOutlets, forall_train, forall_gate]
    decide +kernel

theorem witness_StepsKeepDutyLinksLive : working.dutyLinksLive := by
  simp only [State.dutyLinksLive, forall_train, forall_port]
  decide +kernel

theorem working_page : working.book.page = none := by decide +kernel

theorem witness_StepsKeepTheReserve : working.activationHeld ∧ working.targetsHanded := by
  refine ⟨⟨by decide +kernel, by decide +kernel, by decide +kernel, by decide +kernel, by decide +kernel, ?_⟩,
    by decide +kernel, by decide +kernel, by decide +kernel, ?_⟩
  · exact fun g h => by rw [working_page] at h; cases h
  · exact fun g h => by rw [working_page] at h; cases h

/-- TRIP left by RESET_TRIP; a HANDOVER that moves an owner outside SETUP. -/
theorem witness_WhatOnlyCertainCommandsChange :
    ((result (exec (.resetTrip (fr .pa [])) (inMode .trip plant))).map (·.prot.mode) = some .hold
        ∧ (Instr.resetTrip (fr .pa [])).wellFormed = true ∧ (inMode .trip plant).prot.mode = .trip
        ∧ Instr.resetTrip (fr .pa []) ≠ .coldReset ∧ (Instr.handover (fr .pa [(.u1, 7)])).wellFormed = true)
      ∧ ((result (exec (.handover (fr .pa [(.u1, 7)])) (withTrain .x3 (train .lost) plant))).map
          (fun t => t.store.cfg.owner.get .x3) = some .pa
        ∧ (withTrain .x3 (train .lost) plant).prot.mode ≠ .setup) := by decide +kernel

/-- PA's repeat memory holds a POLL. -/
def recalling : State := plant.modPort .pa fun k => { k with memory := some (frameKey 1#8 (fr .pa []), someAnswer) }

/-- The repeat memory holds the frame; an answer is being sent. -/
theorem witness_FramesThatAreNotTaken :
    (Instr.request? (.poll (fr .pa [])) = some (1#8, fr .pa []) ∧ recalling.supply = .running ∧ (recalling.port .pa).answer = .none
        ∧ (fr .pa []).payload.length ≤ 120 ∧ (recalling.port .pa).memory = some (frameKey 1#8 (fr .pa []), someAnswer))
      ∧ (Instr.request? (.repeatFrame 65#8 (fr .gr [])) = some (65#8, fr .gr [])
        ∧ (plant.setAnswer .gr (.sending someKey someAnswer)).supply = .running
        ∧ ((plant.setAnswer .gr (.sending someKey someAnswer)).port .gr).answer ≠ .none) := by decide +kernel

theorem witness_UnknownFrames : plant.accepts 0#8 longest ∧ catalogueCode 0#8 = false := by
  simp only [State.accepts]
  decide +kernel

/-! ## The specification's worked cases -/

/-- Table 2-2, and the account of section 2.3.1. -/
def workedCase : State :=
  let c := { plant.store.cfg with
    mFloor := 6000000, mCeil := 10500000, yd := 110, cc := 160, hd := 95, hc := 100, gramsPerCount := 2500
    capacity := .all 400000000, floor := .all 20000000, ceil := .all 380000000, lossPpm := .all 50 }
  { plant with
    store := { plant.store with cfg := c }
    inv := { plant.inv with mass := 8250000, gramRem := 400, heat := ⟨150000000, 90000000, 30000000⟩ } }

/-- Table 2-3. -/
theorem test_headroom_of_the_worked_case :
    let h := workedCase.recomputeHeadroom.head
    (h.eAirD, h.eHeatD, h.d) = (247500, some 243157, 243157) ∧ (h.eAirC, h.eHeatC) = (360000, some 1392000) := by
  decide +kernel

/-- Section 1.5.1: +37 counts, and reports of 60 kg (C1, S2), 35 kg (C2, S1) and 4 kg (X0, S0). -/
theorem test_one_accounting_second :
    let v : Inventory := { workedCase.inv with
      netCount := 37
      acc := { (.all (.all 0) : PerTrain (PerStore Nat)) with c1 := ⟨0, 0, 60⟩, c2 := ⟨0, 35, 0⟩, x0 := ⟨4, 0, 0⟩ } }
    (result (exec .accountingSecond { workedCase with inv := v })).map (fun t => (t.inv.mass, t.inv.gramRem, t.inv.heat))
      = some (8250092, 900, ⟨149999620, 90003500, 30006000⟩) := by decide +kernel

/-- Table 5-3, rows 1 to 6. -/
theorem test_netting_examples :
    net 80000 0 = (some (.expand, 80000), none) ∧ net 80000 10000 = (some (.expand, 80000), some (.expand, 10000))
      ∧ net 80000 (-30000) = (some (.expand, 50000), none) ∧ net 20000 (-25000) = (none, some (.compress, 5000))
      ∧ net 0 (-25000) = (none, some (.compress, 25000)) ∧ net (-40000) 15000 = (some (.compress, 25000), none) := by
  refine ⟨?_, ?_, ?_, ?_, ?_, ?_⟩ <;> decide

/-- Section 3.5.1: windows 1 and 2. -/
theorem test_matching_runs :
    let w1 : Window := ⟨5003, 3, true, false, false, false, true, false⟩
    let w2 : Window := ⟨5000, 7, false, false, true, true, true, false⟩
    w1.blocks 5006 ⟨4000, 0, 0⟩ = true ∧ w1.blocks 5006 ⟨-4000, 0, 3000⟩ = false ∧ w1.blocks 5008 ⟨4000, 0, 0⟩ = false
      ∧ w2.covers 4991 = false ∧ w2.covers 4992 = true ∧ w2.covers 5119 = true ∧ w2.covers 5120 = false
      ∧ w2.blocks 5006 ⟨4000, 2000, 0⟩ = true := by decide +kernel

/-- Table 9-3: PHI, ACTIVE_LOW in Q3 mode, with a count of 1 (sample 6) and of 2 (sample 4, high). -/
theorem test_contact_bounce :
    let c := { plant.store.cfg with
      activeLow := plant.store.cfg.activeLow.set (.prot .phi) true
      qualifier := plant.store.cfg.qualifier.set (.prot .phi) .q3 }
    let s (n : Nat) : State := { plant with
      store := { plant.store with cfg := c }
      prot := { plant.prot with lines := plant.prot.lines.set (.prot .phi) ⟨false, n⟩ } }
    (result (exec (.qualifierSample (.prot .phi) false) (s 1))).map (·.prot.lines.prot.phi) = some ⟨false, 2⟩
      ∧ (result (exec (.qualifierSample (.prot .phi) true) (s 2))).map (·.prot.lines.prot.phi) = some ⟨false, 0⟩ := by
  decide +kernel

end Sys2Proof.Tests
end

section
/-! PROOFS. The wellhead sample and the seed (R4, R5, R19). -/

namespace Sys2Proof.Machine

/-- An event in a running part happens, and the step ends as every step does. -/
theorem State.happen_running {s : State} (h : s.supply = .running) (f : State → State) : s.happen f = (f s).finish := by
  simp [State.happen, h]

/-! ## The wellhead sample -/

/-- Table 1-2, read as the statement reads it: WA leading counts up, WB leading counts down, both moving is illegal. -/
theorem quadrature_eq (ra rb wa wb : Bool) :
    quadrature (ra, rb) (wa, wb) = if wa ≠ ra ∧ wb ≠ rb then none
      else some (if wa ≠ ra ∧ wb = rb then (if wa ≠ rb then 1 else -1)
        else if wa = ra ∧ wb ≠ rb then (if wb = ra then 1 else -1) else 0) := by
  revert ra rb wa wb
  decide

/-- R4, R5: a sample set beside a reference, counted or illegal. -/
theorem Inventory.sample_some {v : Inventory} {ra rb : Bool} (h : v.reference = some (ra, rb)) (wa wb : Bool) :
    v.sample (wa, wb) = { v with
      reference := some (wa, wb)
      netCount := v.netCount + (if wa ≠ ra ∧ wb = rb then (if wa ≠ rb then 1 else -1)
        else if wa = ra ∧ wb ≠ rb then (if wb = ra then 1 else -1) else 0)
      secondValid := v.secondValid && !(wa != ra && wb != rb) } := by
  rw [Inventory.sample, h]
  simp only [quadrature_eq]
  by_cases illegal : wa ≠ ra ∧ wb ≠ rb
  · simp [illegal]
  · have legal : (wa != ra && wb != rb) = false := by simpa using illegal
    rw [if_neg illegal, legal, Bool.not_false, Bool.and_true]

/-- R4: the first sample is the reference. -/
theorem Inventory.sample_none {v : Inventory} (h : v.reference = none) (x : Bool × Bool) :
    v.sample x = { v with reference := some x } := by
  rw [Inventory.sample, h]

/-- Settles O40: the step is the sample's, and Table 1-2 is the two cases of the reference. -/
theorem wellheadSampleCounts : Obligations.WellheadSampleCounts := by
  intro wa wb s hs v
  change Host.Outcome.next (s.happen fun t => { t with inv := t.inv.sample (wa, wb) }) = _
  rw [State.happen_running hs]
  cases h : v.reference with
  | none => rw [v.sample_none h]
  | some r => rw [v.sample_some h]

/-! ## The seed -/

/-- R19: the status says whether a value was above its range. -/
theorem seedClamped_iff (cfg : Cfg) (kg q0 q1 q2 : Int) :
    seedClamped cfg kg.toNat ⟨q0.toNat, q1.toNat, q2.toNat⟩ = true ↔ 40000000 < kg ∨ (cfg.capacity.s0 : Int) < q0
      ∨ (cfg.capacity.s1 : Int) < q1 ∨ (cfg.capacity.s2 : Int) < q2 := by
  simp [seedClamped, massTop, storeList, PerStore.get]

/-- R19, R66: a seed, block by block. -/
theorem State.seed_eq (s : State) (kg : Nat) (heat : PerStore Nat) :
    let inv := s.inv.seed s.store.cfg kg heat
    s.seed kg heat = { s with
      inv := inv
      head := s.head.recompute s.store.cfg inv s.prot.isolated
      plant := if s.inv.reconFault = true ∧ s.inv.source = .wellhead then s.plant.raiseOn [.mk, .pa, .pb] .recon
        else s.plant
      sweep := if s.tb.synced then { s.sweep with running := true, base := s.tb.current, pointer := 0, carried := none }
        else s.sweep } := by
  intro inv
  have recon : (s.inv.reconFault && !inv.reconFault) = true ↔ s.inv.reconFault = true ∧ s.inv.source = .wellhead := by
    simp only [inv, Inventory.seed]
    cases s.inv.source <;> simp
  have begins (t : State) (ht : t.inv.seeded = true) : t.sweepBegin = { t with
      sweep := if t.tb.synced then { t.sweep with running := true, base := t.tb.current, pointer := 0, carried := none }
        else t.sweep } := by
    unfold State.sweepBegin Sweep.start
    cases t.tb.synced <;> simp [ht]
  let t : State := { s with inv := inv, head := s.head.recompute s.store.cfg inv s.prot.isolated }
  change (if s.inv.reconFault && !inv.reconFault then t.raiseRecon else t).sweepBegin = _
  by_cases h : s.inv.reconFault = true ∧ s.inv.source = .wellhead
  · rw [if_pos (recon.2 h), if_pos h, begins _ rfl]
    rfl
  · rw [if_neg (mt recon.1 h), if_neg h, begins _ rfl]

/-- Settles O15: the frame is taken by its row, whose body is the seed in SETUP and HOLD and a refusal elsewhere. -/
theorem seedReplacesTheAccount : Obligations.SeedReplacesTheAccount := by
  intro f s kg q0 q1 q2 ha hp hr u cap inv
  have served : exec (.seedInventory f) s
      = .next (State.reply 7#8 f (seedInventoryBody f.port [kg, q0, q1, q2] u)) :=
    congrArg _ (State.request_taken (r := rowSeedInventory) ha hp hr)
  have mode : u.prot.mode = s.prot.mode := State.received_prot_mode s f.port
  have store : u.store = s.store := State.received_store s f.port
  have account : u.inv.seed s.store.cfg kg.toNat ⟨q0.toNat, q1.toNat, q2.toNat⟩ = inv := by
    simp only [Inventory.seed, Inventory.emptyWindow, massTop, inv]
    cases u.inv.source <;> rfl
  refine ⟨fun h => ?_, fun h => ?_⟩
  · simp only [served, seedInventoryBody, mode, if_pos h, State.seed_eq, store, account, seedClamped_iff]
    rfl
  · have refused : ¬ (s.prot.mode = .setup ∨ s.prot.mode = .hold) := by
      rcases h with h | h <;> simp [h]
    rw [served, seedInventoryBody, mode, if_neg refused]
    rfl

end Sys2Proof.Machine
end

section
/-! PROOFS. What no command but a cold reset undoes, and the ranges every step keeps (R1, R3, R41, R66, R157, R162, R177): one
preorder on states, `State.calm`, that every shared operation meets, and what a request may do beyond it. -/

namespace Sys2Proof.Machine

/-! ## Ranges and what only rises, block by block -/

/-- R1, R6, R7, R8, R15: the ranges of the account, under the capacities of the stores. -/
def Inventory.inRange (cap : PerStore Nat) (v : Inventory) : Prop :=
  v.mass ≤ 40000000 ∧ (∀ st, v.heat.get st ≤ cap.get st) ∧ -1000 < v.gramRem ∧ v.gramRem < 1000
    ∧ v.invalidStreak ≤ 3 ∧ v.cleanStreak ≤ 60 ∧ v.passStreak ≤ 3

/-- R25: the range of headroom. -/
def Headroom.within (h : Headroom) : Prop := h.d ≤ 16777215 ∧ h.c ≤ 16777215

theorem State.inRanges_iff (s : State) :
    s.inRanges ↔ s.inv.inRange s.store.cfg.capacity ∧ s.head.within := by
  simp only [State.inRanges, Inventory.inRange, Headroom.within, and_assoc]

/-- The account stays SEEDED (R3) and in its ranges. -/
def Inventory.follows (cap : PerStore Nat) (v w : Inventory) : Prop :=
  (v.seeded = true → w.seeded = true) ∧ (v.inRange cap → w.inRange cap)

@[simp] theorem Inventory.follows_refl (cap : PerStore Nat) (v : Inventory) : v.follows cap v := ⟨id, id⟩

/-- The Timebase stays synchronised and its interval does not fall (R41). -/
def Timebase.follows (b c : Timebase) : Prop := b.synced = true → c.synced = true ∧ b.current ≤ c.current

@[simp] theorem Timebase.follows_refl (b : Timebase) : b.follows b := fun h => ⟨h, Nat.le_refl _⟩

/-- R166: no frame is under way and none can begin before the line has been idle. -/
def LinkPort.quiet (k : LinkPort) : Prop := k.rx = .skip ∨ (k.rx = .hunt ∧ k.lineIdle = false)

/-- R25: a recomputed headroom is in its range, whatever it is formed from. -/
theorem Headroom.recompute_within (h : Headroom) (cfg : Cfg) (v : Inventory) (isolated : PerStore Bool) :
    (h.recompute cfg v isolated).within := by
  simp only [Headroom.within, Headroom.recompute, headroomTop]
  split <;> omega

@[simp] theorem Headroom.within_settle (s : State) : s.settle.head.within ↔ s.head.within := Iff.rfl
@[simp] theorem Headroom.within_finish (s : State) : s.finish.head.within ↔ s.head.within := Iff.rfl

/-! ## The account's operations -/

theorem zero_in_gramRange : (-1000 : Int) < 0 ∧ (0 : Int) < 1000 := by decide

/-- R4, R5: a sample moves the decoder alone. -/
theorem Inventory.sample_follows (cap : PerStore Nat) (v : Inventory) (x : Bool × Bool) : v.follows cap (v.sample x) := by
  unfold Inventory.sample
  split
  · exact ⟨id, id⟩
  · split <;> exact ⟨id, id⟩

/-- R13: standing loss only lowers heat. -/
theorem Inventory.standingLoss_follows (v : Inventory) (cfg : Cfg) : v.follows cfg.capacity (v.standingLoss cfg) := by
  unfold Inventory.standingLoss
  split
  · refine ⟨id, fun ⟨hmass, hheat, hrest⟩ => ⟨hmass, fun st => ?_, hrest⟩⟩
    have := hheat st
    simp only [PerStore.get_of]
    omega
  · exact Inventory.follows_refl _ _

/-- R19: a seed is brought into the ranges. -/
theorem Inventory.seed_follows (v : Inventory) (cfg : Cfg) (kg : Nat) (heat : PerStore Nat) :
    v.follows cfg.capacity (v.seed cfg kg heat) := by
  refine ⟨fun _ => rfl, fun ⟨_, _, _, _, hinvalid, hclean, _⟩ => ?_⟩
  refine ⟨Nat.min_le_right _ _, fun st => ?_, zero_in_gramRange.1, zero_in_gramRange.2, hinvalid, hclean, Nat.zero_le _⟩
  simp only [Inventory.seed, PerStore.get_of]
  exact Nat.min_le_right _ _

/-- R6: what is left over of grams after whole kilograms. -/
theorem gramsLeft_inRange (g : Int) : -1000 < g - 1000 * g.tdiv 1000 ∧ g - 1000 * g.tdiv 1000 < 1000 := by
  have split := Int.mul_tdiv_add_tmod g 1000
  have low := Int.lt_tmod_of_pos g (show (0 : Int) < 1000 by decide)
  have high := Int.tmod_lt_of_pos g (show (0 : Int) < 1000 by decide)
  omega

/-- R6, R7, R8: judging the source keeps the streaks and the remainder in range. -/
theorem Inventory.judgeSource_follows (v : Inventory) (cfg : Cfg) (cap : PerStore Nat) :
    v.follows cap (v.judgeSource cfg).1 := by
  unfold Inventory.judgeSource
  split
  · exact ⟨id, fun ⟨hmass, hheat, _, _, _, hclean, hpass⟩ =>
      ⟨hmass, hheat, (gramsLeft_inRange _).1, (gramsLeft_inRange _).2, Nat.zero_le _, hclean, hpass⟩⟩
  · split
    · next h =>
      exact ⟨id, fun ⟨hmass, hheat, hlow, hhigh, _, hclean, hpass⟩ => ⟨hmass, hheat, hlow, hhigh, Nat.le_of_lt h, hclean, hpass⟩⟩
    · exact ⟨id, fun ⟨hmass, hheat, _⟩ =>
        ⟨hmass, hheat, zero_in_gramRange.1, zero_in_gramRange.2, Nat.zero_le _, Nat.zero_le _, Nat.zero_le _⟩⟩
  · split
    · next h =>
      exact ⟨id, fun ⟨hmass, hheat, _, _, hinvalid, _, hpass⟩ =>
        ⟨hmass, hheat, zero_in_gramRange.1, zero_in_gramRange.2, hinvalid, Nat.le_of_lt h, hpass⟩⟩
    · exact ⟨id, fun ⟨hmass, hheat, _⟩ => ⟨hmass, hheat, (gramsLeft_inRange _).1, (gramsLeft_inRange _).2,
        Nat.zero_le _, Nat.zero_le _, Nat.zero_le _⟩⟩
  · exact ⟨id, fun ⟨hmass, hheat, _, _, hinvalid, _, hpass⟩ =>
      ⟨hmass, hheat, zero_in_gramRange.1, zero_in_gramRange.2, hinvalid, Nat.zero_le _, hpass⟩⟩

/-- R10, R11: mass and heat move within their ranges. -/
theorem Inventory.account_follows (v : Inventory) (cfg : Cfg) (mass : Int) (before : Inventory) :
    v.follows cfg.capacity (v.account cfg mass before) := by
  unfold Inventory.account
  split
  · refine ⟨id, fun ⟨_, _, hrest⟩ => ⟨Nat.min_le_right _ _, fun st => ?_, hrest⟩⟩
    simp only [PerStore.get_of]
    exact Nat.min_le_right _ _
  · exact Inventory.follows_refl _ _

/-- R15, R17: reconciliation keeps the streak of passes in range. -/
theorem Inventory.reconcile_follows (v : Inventory) (cfg : Cfg) (cap : PerStore Nat) (wellhead : Option Int)
    (ac ax : Nat) : v.follows cap (v.reconcile cfg wellhead ac ax).inv := by
  unfold Inventory.reconcile
  split
  · simp only []
    split
    · unfold Inventory.judgeWindow
      simp only []
      split
      · exact ⟨id, fun ⟨hmass, hheat, hlow, hhigh, hinvalid, hclean, _⟩ =>
          ⟨hmass, hheat, hlow, hhigh, hinvalid, hclean, Nat.min_le_left _ _⟩⟩
      · exact ⟨id, fun ⟨hmass, hheat, hlow, hhigh, hinvalid, hclean, _⟩ =>
          ⟨hmass, hheat, hlow, hhigh, hinvalid, hclean, Nat.zero_le _⟩⟩
    · exact ⟨id, id⟩
  · exact ⟨id, id⟩

theorem Inventory.follows_trans {cap : PerStore Nat} {u v w : Inventory} (h : u.follows cap v) (k : v.follows cap w) :
    u.follows cap w := ⟨k.1 ∘ h.1, k.2 ∘ h.2⟩

/-- R10, R11, R14: an accounting second, as a whole. -/
theorem Inventory.second_follows (v : Inventory) (cfg : Cfg) : v.follows cfg.capacity (v.second cfg).inv := by
  have judged := v.judgeSource_follows cfg cfg.capacity
  have next : (v.judgeSource cfg).1.follows cfg.capacity (v.judgeSource cfg).1.nextSecond := ⟨id, id⟩
  exact Inventory.follows_trans judged <| Inventory.follows_trans next <|
    Inventory.follows_trans (Inventory.account_follows _ _ _ v) (Inventory.reconcile_follows _ _ _ _ _ _)

/-! ## Calm changes -/

/-- What the shared operations do to a state: no fall back to SETUP, UNSEEDED, an unsynchronised Timebase or an IDLE Sweep,
TRIP not left, the configuration untouched, the ranges kept, and a port at which no frame can end still so. -/
structure State.calm (s t : State) : Prop where
  inv : s.inv.follows s.store.cfg.capacity t.inv
  head : s.head.within → t.head.within
  tb : s.tb.follows t.tb
  sweep : s.sweep.running = true → t.sweep.running = true
  setup : t.prot.mode = .setup → s.prot.mode = .setup
  trip : s.prot.mode = .trip → t.prot.mode = .trip
  cfg : t.store.cfg = s.store.cfg
  quiet : ∀ p, (s.ports.get p).quiet → (t.ports.get p).quiet

theorem State.calm.refl (s : State) : s.calm s := by constructor <;> simp

theorem State.calm.trans {s t u : State} (h : s.calm t) (k : t.calm u) : s.calm u where
  inv := Inventory.follows_trans h.inv (h.cfg ▸ k.inv)
  head := k.head ∘ h.head
  tb b := ⟨(k.tb (h.tb b).1).1, Nat.le_trans (h.tb b).2 (k.tb (h.tb b).1).2⟩
  sweep := k.sweep ∘ h.sweep
  setup := h.setup ∘ k.setup
  trip := k.trip ∘ h.trip
  cfg := k.cfg.trans h.cfg
  quiet p := k.quiet p ∘ h.quiet p

/-- A calm change after a calm change. -/
theorem State.calm.andThen {s t : State} {f : State → State} (h : s.calm t) (k : ∀ t : State, t.calm (f t)) : s.calm (f t) :=
  h.trans (k t)

/-- A change that comes about on a condition. -/
theorem State.calm.ite {s t u : State} {c : Prop} [Decidable c] (h : s.calm t) (k : s.calm u) :
    s.calm (if c then t else u) := by
  split
  · exact h
  · exact k

theorem State.calm.foldl {α : Type} {f : State → α → State} (h : ∀ (s : State) (a : α), s.calm (f s a)) (l : List α) (s : State) :
    s.calm (l.foldl f s) := by
  induction l generalizing s with
  | nil => exact .refl s
  | cons a l ih => exact (h s a).trans (ih _)

/-! ### Orders, causes and the end of a step -/

theorem State.onPlant_calm (s : State) (f : Env → Plant → Plant) : s.calm (s.onPlant f) := by constructor <;> simp
theorem State.raise_calm (s : State) (p : Port) (c : Cause) : s.calm (s.raise p c) := by constructor <;> simp
theorem State.raiseOn_calm (s : State) (l : List Port) (c : Cause) : s.calm (s.raiseOn l c) := by constructor <;> simp
theorem State.raiseRecon_calm (s : State) : s.calm s.raiseRecon := by constructor <;> simp
theorem State.setCauses_calm (s : State) (p : Port) (x : Causes) : s.calm (s.setCauses p x) := by constructor <;> simp
theorem State.dispatch_calm (s : State) : s.calm s.dispatch := by constructor <;> simp
theorem State.settle_calm (s : State) : s.calm s.settle := by constructor <;> simp
theorem State.finish_calm (s : State) : s.calm s.finish := by constructor <;> simp

theorem State.recomputeHeadroom_calm (s : State) : s.calm s.recomputeHeadroom where
  inv := Inventory.follows_refl _ _
  head _ := Headroom.recompute_within _ _ _ _
  tb := Timebase.follows_refl _
  sweep := id
  setup := id
  trip := id
  cfg := rfl
  quiet _ := id

/-- An event in a running part is calm when its own part is. -/
theorem State.happen_calm {f : State → State} (h : ∀ s : State, s.calm (f s)) (s : State) : s.calm (s.happen f) := by
  unfold State.happen
  split
  · exact (h s).trans (f s).finish_calm
  · exact .refl s
  · exact .refl s

/-! ### The reserve -/

theorem State.reform_calm (s : State) : s.calm s.reform := by constructor <;> simp
theorem State.reserveReacts_calm (s : State) : s.calm s.reserveReacts := by constructor <;> simp
theorem State.takeHolding_calm (s : State) : s.calm s.takeHolding := by constructor <;> simp
theorem State.endActivation_calm (s : State) : s.calm s.endActivation := by constructor <;> simp
theorem State.takeActivation_calm (s : State) (v : Int) : s.calm (s.takeActivation v) := by constructor <;> simp
theorem State.reserveSecond_calm (s : State) : s.calm s.reserveSecond := by constructor <;> simp

/-! ### Modes -/

@[simp] theorem State.enterHold_mode (s : State) : s.enterHold.prot.mode = .hold := by simp [State.enterHold]
@[simp] theorem State.enterTrip_mode (s : State) : s.enterTrip.prot.mode = .trip := by simp [State.enterTrip]

/-- R156: NORMAL is entered, or TRIP or HOLD in its place. -/
theorem State.enterNormal_mode_ne_setup (s : State) : s.enterNormal.prot.mode ≠ .setup := by
  unfold State.enterNormal
  split
  · simp
  · split <;> simp

/-- R158, R159: entry into HOLD from any mode but TRIP. -/
theorem State.enterHold_calm (s : State) (h : s.prot.mode ≠ .trip) : s.calm s.enterHold := by constructor <;> simp [h]

theorem State.enterTrip_calm (s : State) : s.calm s.enterTrip := by constructor <;> simp

theorem State.enterNormal_calm (s : State) (h : s.prot.mode ≠ .trip) : s.calm s.enterNormal := by
  constructor <;> simp [h, s.enterNormal_mode_ne_setup]

theorem State.holdCondition_calm (s : State) : s.calm s.holdCondition := by
  unfold State.holdCondition
  split
  · next h => exact s.enterHold_calm (by simp [h])
  · exact .refl s

theorem State.resume_calm (s : State) (h : s.prot.mode ≠ .trip) : s.calm s.resume :=
  (s.onPlant_calm _).trans (State.enterNormal_calm _ h)

/-! ### Inhibits, isolation and lines -/

/-- A change of the Protection Unit that leaves the mode. -/
theorem State.setProt_calm (s : State) (q : Protection) (h : q.mode = s.prot.mode) : s.calm { s with prot := q } := by
  constructor <;> simp [h]

theorem State.latchInhibit_calm (s : State) (k : Kind) : s.calm (s.latchInhibit k) := by
  have latched (q : Protection) (h : q.mode = s.prot.mode) (n : Nat) :
      s.calm { ({ s with prot := q } : State).raiseOn [.pa, .pb] .inhibit with free := n } := by
    constructor <;> simp [h]
  unfold State.latchInhibit
  split
  · exact .refl s
  · refine .ite (.trans ?_ (.trans (State.reserveReacts_calm _) (State.onPlant_calm _ _)))
      (.trans ?_ (.trans (State.onPlant_calm _ _) (State.reserveReacts_calm _)))
    all_goals cases k <;> exact latched _ (by rfl) _

theorem State.clearInhibit_calm (s : State) (k : Kind) : s.calm (s.clearInhibit k) := by
  unfold State.clearInhibit
  refine .ite ?_ (.refl s)
  cases k <;> exact (s.setProt_calm _ (by rfl)).trans (State.reserveReacts_calm _)

theorem State.latchIsolated_calm (s : State) (st : Store) : s.calm (s.latchIsolated st) := by
  unfold State.latchIsolated
  exact .ite (.refl s) ((s.setProt_calm _ (by rfl)).trans <| (State.raiseOn_calm _ _ _).trans <|
    (State.onPlant_calm _ _).trans (State.recomputeHeadroom_calm _))

theorem State.clearIsolated_calm (s : State) (st : Store) : s.calm (s.clearIsolated st) := by
  unfold State.clearIsolated
  exact .ite ((s.setProt_calm _ (by rfl)).trans <| (State.onPlant_calm _ _).trans (State.recomputeHeadroom_calm _))
    (.refl s)

theorem State.clearLatch_calm (s : State) (l : Latch) : s.calm (s.clearLatch l) := by
  cases l with
  | charge => exact s.clearInhibit_calm .compress
  | discharge => exact s.clearInhibit_calm .expand
  | isolated st => exact s.clearIsolated_calm st

theorem State.tripLine_calm (s : State) : s.calm s.tripLine := by
  unfold State.tripLine
  split
  · exact s.enterTrip_calm
  · exact s.enterTrip_calm
  · exact s.raiseOn_calm _ _
  · exact .refl s

theorem State.protectiveActive_calm (s : State) (p : Protective) : s.calm (s.protectiveActive p) := by
  cases p with
  | phi => exact s.latchInhibit_calm .compress
  | plo => exact s.latchInhibit_calm .expand
  | ts0 => exact s.latchIsolated_calm .s0
  | ts1 => exact s.latchIsolated_calm .s1
  | ts2 => exact s.latchIsolated_calm .s2
  | est => exact s.tripLine_calm
  | gof => exact s.tripLine_calm
  | hrq => exact s.holdCondition_calm

theorem State.lineChanged_calm (s : State) (l : Line) : s.calm (s.lineChanged l) := by
  cases l with
  | prot p => exact .ite (s.protectiveActive_calm p) (.refl s)
  | feedback t => exact s.onPlant_calm fun env p => p.feedbackMove env t

theorem State.setLine_calm (s : State) (l : Line) (active : Bool) (count : Nat) : s.calm (s.setLine l active count) :=
  .ite (s.setProt_calm _ (by rfl)) ((s.setProt_calm _ (by rfl)).trans (State.lineChanged_calm _ l))

theorem State.sampleLine_calm (s : State) (l : Line) (level : Bool) : s.calm (s.sampleLine l level) :=
  .ite (.ite (s.setLine_calm _ _ _) (.ite (s.setLine_calm _ _ _) (s.setLine_calm _ _ _))) (.refl s)

/-! ### Ports and timers -/

theorem State.modPort_calm (s : State) (p : Port) {f : LinkPort → LinkPort} (h : ∀ k : LinkPort, k.quiet → (f k).quiet) :
    s.calm (s.modPort p f) := by
  constructor
  case quiet =>
    intro q hq
    simp only [State.modPort, PerPort.get_set]
    split
    · next e => exact h _ (e ▸ hq)
    · exact hq
  all_goals simp

theorem State.setAnswer_calm (s : State) (p : Port) (a : PortAnswer) : s.calm (s.setAnswer p a) :=
  s.modPort_calm p fun _ => id

theorem LinkPort.skipFrame_quiet (k : LinkPort) : k.skipFrame.quiet := .inl rfl
theorem LinkPort.frameEnd_quiet (k : LinkPort) : k.frameEnd.quiet := .inr ⟨rfl, rfl⟩

theorem State.setTimer_calm (s : State) (p : Port) (t : LinkTimer) : s.calm (s.setTimer p t) := by constructor <;> simp

theorem State.received_calm (s : State) (p : Port) : s.calm (s.received p) :=
  (s.modPort_calm p fun k _ => k.frameEnd_quiet).trans (by constructor <;> simp)

theorem State.losePlantLink_calm (s : State) (p : Port) : s.calm (s.losePlantLink p) := by
  have lost : s.calm (match otherPlant p with
      | some q => (s.onPlant fun env r => r.loseTrains env.cfg p).raise q .otherLinkLost
      | none => s.onPlant fun env r => r.loseTrains env.cfg p) := by
    cases otherPlant p with
    | none => exact s.onPlant_calm _
    | some q => exact (s.onPlant_calm _).trans (State.raise_calm _ _ _)
  exact .ite (lost.trans (State.holdCondition_calm _)) lost

theorem State.dropPage_calm (s : State) : s.calm s.dropPage := by constructor <;> simp

theorem State.linkLost_calm (s : State) (p : Port) : s.calm (s.linkLost p) := by
  have forgotten : s.calm ((s.setTimer p .expired).forget p) :=
    (s.setTimer_calm p _).trans (State.modPort_calm _ p (f := fun k => { k with memory := none }) fun _ => id)
  refine forgotten.trans ?_
  cases p with
  | pa => exact State.losePlantLink_calm _ _
  | pb => exact State.losePlantLink_calm _ _
  | mk =>
    simp only [State.linkLost]
    split
    · exact (State.dropPage_calm _).trans (State.raise_calm _ _ _)
    · exact .refl _
  | gr => exact State.endActivation_calm _

theorem State.linkOut_calm (s : State) (p : Port) : s.calm (s.linkOut p) := .ite (s.linkLost_calm p) (.refl s)

/-! ### Seconds -/

theorem State.entryDue_calm (s : State) (e : Entry) : s.calm (s.entryDue e) :=
  (s.onPlant_calm _).trans (State.dispatch_calm _)

theorem State.trainDue_calm (s : State) (t : Train) : s.calm (s.trainDue t) := by constructor <;> simp

theorem State.portDue_calm (s : State) (p : Port) : s.calm (s.portDue p) :=
  (s.linkOut_calm p).trans (State.dispatch_calm _)

theorem State.takeDue_calm (s : State) : s.calm s.takeDue :=
  (State.calm.foldl State.entryDue_calm entryList s).trans <|
    (State.calm.foldl State.trainDue_calm trainList _).trans (State.calm.foldl State.portDue_calm portList _)

theorem State.tickTimers_calm (s : State) : s.calm s.tickTimers := by constructor <;> simp

theorem State.standingLoss_calm (s : State) : s.calm s.standingLoss where
  inv := s.inv.standingLoss_follows s.store.cfg
  head _ := Headroom.recompute_within _ _ _ _
  tb := Timebase.follows_refl _
  sweep := id
  setup := id
  trip := id
  cfg := rfl
  quiet _ := id

theorem State.accumulate_calm (s : State) : s.calm s.accumulate := by constructor <;> simp
theorem State.closeSlot_calm (s : State) (n : Nat) : s.calm (s.closeSlot n) := by constructor <;> simp
theorem State.activate_calm (s : State) (n : Nat) : s.calm (s.activate n) := by constructor <;> simp

/-- A move of the Timebase on from where it stands. -/
theorem State.setTb_calm (s : State) (b : Timebase) (h : s.tb.follows b) : s.calm { s with tb := b } := by
  constructor <;> simp [h]

theorem State.setFree_calm (s : State) (n : Nat) : s.calm { s with free := n } := by constructor <;> simp

theorem State.turn_calm (s : State) : s.calm s.turn := by
  have loss (c : Prop) [Decidable c] (t : State) : t.calm (if c then t.standingLoss else t) :=
    .ite t.standingLoss_calm (.refl t)
  unfold State.turn
  refine .trans ?_ (loss _ _)
  refine .trans ?_ (State.takeHolding_calm _)
  refine .trans ?_ (loss _ _)
  refine .trans ?_ (State.activate_calm _ _)
  refine .trans ?_ (loss _ _)
  refine .trans ?_ (State.setTb_calm _ _ fun h => ⟨h, Nat.le_succ _⟩)
  refine .trans ?_ (State.closeSlot_calm _ _)
  exact s.setFree_calm _

/-- A move of the Sweep that does not stop it. -/
theorem State.setSweep_calm (s : State) (w : Sweep) (h : s.sweep.running = true → w.running = true) :
    s.calm { s with sweep := w } := by
  constructor <;> simp_all

theorem State.sweepStart_calm (s : State) : s.calm s.sweepStart := s.setSweep_calm _ id
theorem State.markRisk_calm (s : State) (n : Nat) (r : Option Reason) : s.calm (s.markRisk n r) := by
  constructor <;> simp

theorem State.sweepStep_calm (s : State) : s.calm s.sweepStep :=
  .ite ((s.markRisk_calm _ _).trans (State.setSweep_calm _ _ id)) ((s.markRisk_calm _ _).trans (State.setSweep_calm _ _ id))

theorem State.sweepSecond_calm (s : State) : s.calm s.sweepSecond :=
  .ite (.refl s) (.ite s.sweepStep_calm s.sweepStart_calm)

theorem State.sweepTurn_calm (s : State) : s.calm s.sweepTurn := .ite s.sweepStart_calm (.refl s)

theorem State.sweepAtTurn_calm (s : State) : s.calm s.sweepAtTurn :=
  .ite (s.sweepTurn_calm.trans (State.sweepSecond_calm _)) (s.sweepSecond_calm.trans (State.sweepTurn_calm _))

theorem State.bookSecond_calm (s : State) : s.calm s.bookSecond := by
  refine s.accumulate_calm.trans <| .ite (.andThen ?_ State.sweepSecond_calm)
    ((State.turn_calm _).andThen State.sweepAtTurn_calm)
  exact State.setTb_calm _ _ fun h => ⟨h, Nat.le_refl _⟩

theorem State.secondBody_calm (s : State) : s.calm s.secondBody :=
  s.tickTimers_calm.trans (.ite ((State.reserveSecond_calm _).trans (State.bookSecond_calm _)) (.refl _))

theorem State.timebaseSecond_calm (s : State) : s.calm s.timebaseSecond :=
  s.takeDue_calm.trans ((State.settle_calm _).trans (State.secondBody_calm _))

theorem State.secondWith_calm (comes : State → Bool) (s : State) : s.calm (s.secondWith comes) :=
  .ite s.timebaseSecond_calm (.refl s)

/-- A change of the account that keeps it SEEDED and in range. -/
theorem State.setInv_calm (s : State) (v : Inventory) (h : s.inv.follows s.store.cfg.capacity v) :
    s.calm { s with inv := v } := by
  constructor <;> simp [h]

theorem State.accountingSecond_calm (s : State) : s.calm s.accountingSecond := by
  unfold State.accountingSecond
  refine .andThen ?_ fun t => t.onPlant_calm _
  refine .andThen ?_ State.recomputeHeadroom_calm
  refine .trans ?_ (.ite (State.holdCondition_calm _) (.refl _))
  refine .trans ?_ (.ite (State.raiseOn_calm _ _ _) (.refl _))
  refine .trans ?_ (.ite (State.raiseRecon_calm _) (.refl _))
  exact s.setInv_calm _ (s.inv.second_follows s.store.cfg)

end Sys2Proof.Machine
end

section
/-! PROOFS. What taking a request may do beyond a calm change, row by row of the catalogue; what each command may do; and the
statements on the ranges and on what only certain commands change. -/

namespace Sys2Proof.Machine

/-! ## What a request's body does -/

/-- R9, R133: a report moves the accumulators of the account alone. -/
theorem State.takeReport_calm (s : State) (t : Train) (r : Reported) (power kg : Nat) :
    s.calm (s.takeReport t r power kg) := by
  unfold State.takeReport
  refine .trans ?_ (State.onPlant_calm _ _)
  exact s.setInv_calm _ ⟨id, id⟩

theorem trainReportBody_calm (p : Port) (vs : List Int) (s : State) : s.calm (trainReportBody p vs s).state := by
  unfold trainReportBody
  split
  · split
    · split
      · exact .refl s
      · split
        · exact s.takeReport_calm _ _ _ _
        · exact .refl s
    · exact .refl s
  · exact .refl s

theorem State.setPlant_calm (s : State) (p : Plant) : s.calm { s with plant := p } := by constructor <;> simp

theorem submitServiceBody_calm (p : Port) (vs : List Int) (s : State) : s.calm (submitServiceBody p vs s).state := by
  unfold submitServiceBody
  split
  · exact .refl s
  · split
    · exact .refl s
    · split
      · exact .refl s
      · split
        · exact .refl s
        · split
          · exact .refl s
          · exact s.setPlant_calm _

theorem cancelServiceBody_calm (p : Port) (vs : List Int) (s : State) : s.calm (cancelServiceBody p vs s).state := by
  unfold cancelServiceBody
  split
  · split
    · exact .refl s
    · split
      · rw [taken_state]
        exact s.onPlant_calm _
      · exact .refl s
  · exact .refl s

theorem queryOrderBody_calm (p : Port) (vs : List Int) (s : State) : s.calm (queryOrderBody p vs s).state := by
  unfold queryOrderBody
  split
  · split
    · exact .refl s
    · split <;> exact .refl s
  · exact .refl s

/-- R19: a seed, whatever it is seeded with. -/
theorem State.seed_calm (s : State) (kg : Nat) (heat : PerStore Nat) : s.calm (s.seed kg heat) := by
  rw [State.seed_eq]
  constructor
  case inv => exact s.inv.seed_follows s.store.cfg kg heat
  case head => exact fun _ => Headroom.recompute_within _ _ _ _
  case sweep =>
    intro h
    simp only []
    split
    · rfl
    · exact h
  all_goals simp

theorem seedInventoryBody_calm (p : Port) (vs : List Int) (s : State) : s.calm (seedInventoryBody p vs s).state := by
  unfold seedInventoryBody
  split
  · split
    · exact s.seed_calm _ _
    · exact .refl s
  · exact .refl s

theorem holdBody_calm (p : Port) (vs : List Int) (s : State) : s.calm (holdBody p vs s).state := by
  unfold holdBody
  split
  · next h => exact s.enterHold_calm (by simp [h])
  · exact .refl s
  · exact .refl s
  · exact .refl s

theorem resumeBody_calm (p : Port) (vs : List Int) (s : State) : s.calm (resumeBody p vs s).state := by
  unfold resumeBody
  split
  · next h => exact s.resume_calm (by simp [h.1])
  · exact .refl s

theorem clearTrainBody_calm (p : Port) (vs : List Int) (s : State) : s.calm (clearTrainBody p vs s).state := by
  unfold clearTrainBody
  split
  · split
    · exact .refl s
    · split
      · exact .refl s
      · split
        · exact .refl s
        · rw [taken_state]
          exact s.onPlant_calm _
  · exact .refl s

theorem clearInhibitBody_calm (p : Port) (vs : List Int) (s : State) : s.calm (clearInhibitBody p vs s).state := by
  unfold clearInhibitBody
  split
  · split
    · exact .refl s
    · split
      · exact .refl s
      · exact s.clearLatch_calm _
  · exact .refl s

theorem State.setWindow_calm (s : State) (n : Fin 4) (w : Window) : s.calm (s.setWindow n w) := by constructor <;> simp

theorem setWindowBody_calm (p : Port) (vs : List Int) (s : State) : s.calm (setWindowBody p vs s).state := by
  unfold setWindowBody
  split
  · split
    · exact .refl s
    · split
      · exact .refl s
      · split
        · exact .refl s
        · exact s.setWindow_calm _ _
  · exact .refl s

theorem configReadBody_calm (p : Port) (vs : List Int) (s : State) : s.calm (configReadBody p vs s).state := by
  unfold configReadBody
  split
  · split
    · exact .refl s
    · split <;> exact .refl s
  · exact .refl s

theorem storeConfigBody_calm (p : Port) (vs : List Int) (s : State) : s.calm (storeConfigBody p vs s).state := by
  unfold storeConfigBody
  split
  · constructor <;> simp [State.beginWrite]
  · exact .refl s

theorem startPlantBody_calm (p : Port) (vs : List Int) (s : State) : s.calm (startPlantBody p vs s).state := by
  unfold startPlantBody
  split
  · exact .refl s
  · next h =>
    split
    · exact .refl s
    · split
      · exact .refl s
      · exact s.enterNormal_calm (by simp [Decidable.not_not.1 h])

/-- R182: a warm restart clears the orders, the reserve, the page, the accumulators and the repeat memories alone. -/
theorem State.warmClear_calm (s : State) : s.calm s.warmClear where
  inv := ⟨id, id⟩
  head := id
  tb := Timebase.follows_refl _
  sweep h := by simp [State.warmClear, Sweep.warm, h, Sweep.start]
  setup := id
  trip := id
  cfg := rfl
  quiet p := by simp [State.warmClear, LinkPort.quiet]

theorem restartBody_calm (p : Port) (vs : List Int) (s : State) : s.calm (restartBody p vs s).state := by
  unfold restartBody
  split
  · exact .refl s
  all_goals exact s.warmClear_calm.trans (State.reform_calm _)

theorem State.sweepBegin_calm (s : State) : s.calm s.sweepBegin :=
  .ite (s.setSweep_calm _ fun _ => rfl) (.refl s)

/-- R41: the first SYNC_TIME. -/
theorem State.firstSync_calm (s : State) (n sec : Nat) (h : s.tb.synced = false) : s.calm (s.firstSync n sec) := by
  refine .andThen ?_ State.sweepBegin_calm
  refine .andThen ?_ State.takeHolding_calm
  refine .trans ?_ (State.activate_calm _ _)
  exact s.setTb_calm _ fun b => by simp [h] at b

theorem syncTimeBody_calm (p : Port) (vs : List Int) (s : State) : s.calm (syncTimeBody p vs s).state := by
  unfold syncTimeBody
  split
  · split
    · split
      · exact .refl s
      · split
        · exact .refl s
        · exact s.setTb_calm _ fun b => ⟨b, Nat.le_refl _⟩
    · next h =>
      split
      · exact .refl s
      · exact s.firstSync_calm _ _ (by simpa using h)
  · exact .refl s

theorem querySlotBody_calm (p : Port) (vs : List Int) (s : State) : s.calm (querySlotBody p vs s).state := by
  unfold querySlotBody
  split
  · split
    · exact .refl s
    · split <;> exact .refl s
  · exact .refl s

theorem State.applyRuling_calm (s : State) (n : Nat) (v : Vals) (x : Ruling) : s.calm (s.applyRuling n v x) := by
  constructor <;> simp

theorem commitBody_calm (p : Port) (vs : List Int) (s : State) : s.calm (commitBody p vs s).state := by
  unfold commitBody
  split
  · exact s.applyRuling_calm _ _ _
  · exact .refl s

theorem adjustBody_calm (p : Port) (vs : List Int) (s : State) : s.calm (adjustBody p vs s).state := by
  unfold adjustBody
  split
  · simp only []
    split
    · exact s.applyRuling_calm _ _ _
    · exact .refl s
  · exact .refl s

theorem withdrawBody_calm (p : Port) (vs : List Int) (s : State) : s.calm (withdrawBody p vs s).state := by
  unfold withdrawBody
  split
  · exact s.applyRuling_calm _ _ _
  · exact .refl s

theorem State.setBook_calm (s : State) (b : Book) : s.calm { s with book := b } := by constructor <;> simp

theorem openDayBody_calm (p : Port) (vs : List Int) (s : State) : s.calm (openDayBody p vs s).state := by
  unfold openDayBody
  split
  · split
    · exact .refl s
    · split
      · exact .refl s
      · split
        · exact .refl s
        · split
          · exact .refl s
          · exact s.setBook_calm _
  · exact .refl s

theorem State.hitWindows_calm (s : State) (n : Nat) (v : Vals) : s.calm (s.hitWindows n v) := by constructor <;> simp

theorem stageBody_calm (p : Port) (vs : List Int) (s : State) : s.calm (stageBody p vs s).state := by
  unfold stageBody
  split
  · simp only []
    split
    · exact .refl s
    · split
      · exact .refl s
      · split
        · exact .refl s
        · split
          · exact s.hitWindows_calm _ _
          · exact s.setBook_calm _
  · exact .refl s

theorem State.writeSlot_calm (s : State) (n : Nat) (v : Vals) : s.calm (s.writeSlot n v) := by constructor <;> simp

theorem State.writeChanges_calm (s : State) (l : List (Nat × Vals)) : s.calm (s.writeChanges l) :=
  (State.calm.foldl (fun s x => s.writeSlot_calm x.1 x.2) l s).trans (State.dropPage_calm _)

theorem closeDayBody_calm (p : Port) (vs : List Int) (s : State) : s.calm (closeDayBody p vs s).state := by
  unfold closeDayBody
  split
  · unfold closeAccept
    split
    · exact .refl s
    · exact .refl s
    · exact .refl s
    · exact s.writeChanges_calm _
  · unfold closeDiscard
    split
    · exact .refl s
    · exact s.dropPage_calm
  · exact .refl s

theorem sweepRestartBody_calm (p : Port) (vs : List Int) (s : State) : s.calm (sweepRestartBody p vs s).state := by
  unfold sweepRestartBody
  split
  · exact .refl s
  · split
    · exact .refl s
    · exact s.sweepStart_calm

theorem activateBody_calm (p : Port) (vs : List Int) (s : State) : s.calm (activateBody p vs s).state := by
  unfold activateBody
  split
  · split
    · exact .refl s
    · split
      · exact .refl s
      · exact s.takeActivation_calm _
  · exact .refl s

theorem queryActiveBody_calm (p : Port) (vs : List Int) (s : State) : s.calm (queryActiveBody p vs s).state := by
  unfold queryActiveBody
  split <;> exact .refl s

theorem State.clearHits_calm (s : State) : s.calm s.clearHits := by constructor <;> simp

theorem ackCausesBody_calm (p : Port) (vs : List Int) (s : State) : s.calm (ackCausesBody p vs s).state := by
  unfold ackCausesBody
  split
  · simp only []
    split
    · exact .refl s
    · exact (s.setCauses_calm _ _).trans (.ite (State.clearHits_calm _) (.refl _))
  · exact .refl s

theorem setCauseEnableBody_calm (p : Port) (vs : List Int) (s : State) : s.calm (setCauseEnableBody p vs s).state := by
  unfold setCauseEnableBody
  split
  · simp only []
    split
    · exact .refl s
    · exact s.setCauses_calm _ _
  · exact .refl s

/-! ## What taking a request may do -/

/-- What every command but a cold reset does: nothing falls back, the interval does not fall, and the ranges are kept. -/
structure State.evolves (s t : State) : Prop where
  setup : t.prot.mode = .setup → s.prot.mode = .setup
  seeded : s.inv.seeded = true → t.inv.seeded = true
  tb : s.tb.follows t.tb
  sweep : s.sweep.running = true → t.sweep.running = true
  ranges : s.inRanges → t.inRanges

theorem State.calm.evolves {s t : State} (h : s.calm t) : s.evolves t where
  setup := h.setup
  seeded := h.inv.1
  tb := h.tb
  sweep := h.sweep
  ranges r := by
    obtain ⟨account, head⟩ := s.inRanges_iff.1 r
    exact t.inRanges_iff.2 ⟨h.cfg.symm ▸ h.inv.2 account, h.head head⟩

theorem State.evolves.trans {s t u : State} (h : s.evolves t) (k : t.evolves u) : s.evolves u where
  setup := h.setup ∘ k.setup
  seeded := k.seeded ∘ h.seeded
  tb b := ⟨(k.tb (h.tb b).1).1, Nat.le_trans (h.tb b).2 (k.tb (h.tb b).1).2⟩
  sweep := k.sweep ∘ h.sweep
  ranges := k.ranges ∘ h.ranges

/-- What taking a frame of a code from a link may do: beyond a calm change, a write in SETUP, a HANDOVER from a plant link
(R145, R177), and a RESET_TRIP from a plant link with EST and GOF inactive (R162). -/
structure State.takes (code : Byte) (p : Port) (s t : State) : Prop where
  evolves : s.evolves t
  cfg : s.prot.mode ≠ .setup → t.store.cfg = s.store.cfg ∨ code = 13#8 ∧ isPlant p = true
    ∧ ∃ x, t.store.cfg = { s.store.cfg with owner := s.store.cfg.owner.set x (ownerOfPort p) }
  trip : s.prot.mode = .trip → t.prot.mode ≠ .trip → t.prot.mode = .hold ∧ s.lineActive .est = false
    ∧ s.lineActive .gof = false ∧ code = 10#8 ∧ isPlant p = true
  quiet : ∀ q, (s.ports.get q).quiet → (t.ports.get q).quiet

theorem State.calm.takes {s t : State} (h : s.calm t) (code : Byte) (p : Port) : State.takes code p s t where
  evolves := h.evolves
  cfg _ := .inl h.cfg
  trip m n := absurd (h.trip m) n
  quiet := h.quiet

/-- What is taken, and a calm change of no mode after it. -/
theorem State.takes.then_calm {code : Byte} {p : Port} {s t u : State} (h : State.takes code p s t) (k : t.calm u)
    (mode : u.prot.mode = t.prot.mode) : State.takes code p s u where
  evolves := h.evolves.trans k.evolves
  cfg m := k.cfg.symm ▸ h.cfg m
  trip := mode.symm ▸ h.trip
  quiet q := k.quiet q ∘ h.quiet q

/-- A calm change of neither mode nor lines, and what is taken after it. -/
theorem State.takes.of_calm {code : Byte} {p : Port} {s t u : State} (h : s.calm t) (mode : t.prot.mode = s.prot.mode)
    (lines : t.prot.lines = s.prot.lines) (k : State.takes code p t u) : State.takes code p s u where
  evolves := h.evolves.trans k.evolves
  cfg := by
    rw [← mode, ← h.cfg]
    exact k.cfg
  trip := by
    have active (l : Protective) : s.lineActive l = t.lineActive l := by simp only [State.lineActive, lines]
    rw [← mode, active, active]
    exact k.trip
  quiet q := k.quiet q ∘ h.quiet q

/-- R145: a handover writes one owner and no capacity. -/
theorem State.handOver_takes (s : State) (p : Port) (x : Train) (hp : isPlant p = true) :
    State.takes 13#8 p s (s.handOver p x) where
  evolves := ⟨id, id, Timebase.follows_refl _, id, id⟩
  cfg _ := .inr ⟨rfl, hp, x, rfl⟩
  trip m n := absurd m n
  quiet _ := id

theorem handoverBody_takes (p : Port) (vs : List Int) (s : State) (hp : isPlant p = true) :
    State.takes 13#8 p s (handoverBody p vs s).state := by
  have refused (st : Status) : State.takes 13#8 p s (refuse st s).state := (State.calm.refl s).takes _ _
  unfold handoverBody
  split
  · split
    · exact refused _
    · split
      · exact refused _
      · split
        · exact refused _
        · split
          · exact refused _
          · exact s.handOver_takes p _ hp
  · exact refused _

/-- R162: out of TRIP, with EST and GOF inactive. -/
theorem resetTripBody_takes (p : Port) (vs : List Int) (s : State) (hp : isPlant p = true) :
    State.takes 10#8 p s (resetTripBody p vs s).state := by
  unfold resetTripBody
  split
  · next h =>
    obtain ⟨_, est, gof⟩ := h
    rw [taken_state]
    constructor
    case evolves => constructor <;> simp [State.inRanges]
    case cfg => simp
    case trip => exact fun _ _ => ⟨s.enterHold_mode, est, gof, rfl, hp⟩
    case quiet => simp
  · exact (State.calm.refl s).takes _ _

/-! ## CONFIG_WRITE -/

/-- Item 12 alone is a capacity (Table 11-1). -/
theorem Cfg.write_capacity (c : Cfg) (code i v : Nat) (h : code ≠ 12) : (c.write code i v).capacity = c.capacity := by
  unfold Cfg.write
  split <;> first | rfl | exact absurd rfl h | (split <;> rfl)

theorem State.restartCount_calm (s : State) (l : Line) : s.calm (s.restartCount l) := by constructor <;> simp

/-- R176: what an item other than a capacity does as it is written. -/
theorem State.itemWritten_calm (s : State) (code i : Nat) (h : code ≠ 12) : s.calm (s.itemWritten code i) := by
  unfold State.itemWritten
  split
  · exact absurd rfl h
  · exact .ite (s.onPlant_calm _) (.refl s)
  · exact s.restartCount_calm _
  · exact s.restartCount_calm _
  · exact .ite (s.restartCount_calm _) (s.setLine_calm _ _ _)
  · exact .foldl State.restartCount_calm _ s
  · exact .refl s

/-- R1, R177: an item written; a capacity brings the heat of its store to it. -/
theorem State.writeItem_evolves (s : State) (code i v : Nat) : s.evolves (s.writeItem code i v) := by
  unfold State.writeItem
  split
  · exact (State.calm.refl s).evolves
  · refine .trans ?_ (State.recomputeHeadroom_calm _).evolves
    by_cases h : code = 12
    · subst h
      refine ⟨id, id, Timebase.follows_refl _, id, fun r => ?_⟩
      obtain ⟨⟨hmass, _, hrest⟩, head⟩ := s.inRanges_iff.1 r
      refine (State.inRanges_iff _).2 ⟨⟨hmass, fun st => ?_, hrest⟩, head⟩
      simp only [State.itemWritten, State.clipHeat, PerStore.get_of]
      exact Nat.min_le_right _ _
    · refine .trans ?_ (State.itemWritten_calm _ code i h).evolves
      refine ⟨id, id, Timebase.follows_refl _, id, fun r => ?_⟩
      simpa [State.inRanges, Cfg.write_capacity _ _ _ _ h] using r

/-- R177: a write is no matter of the ports. -/
theorem State.writeItem_ports (s : State) (code i v : Nat) : (s.writeItem code i v).ports = s.ports := by
  have item (t : State) : (t.itemWritten code i).ports = t.ports := by
    unfold State.itemWritten
    split
    · rfl
    · unfold State.ownerWritten
      split <;> rfl
    · rfl
    · rfl
    · unfold State.enableWritten
      split <;> simp
    · exact foldl_keeps (fun t => t.ports) _ (fun t l => t.restartCount_ports l) _ _
    · rfl
  unfold State.writeItem
  split
  · rfl
  · rw [State.recomputeHeadroom_ports, item]
    rfl

theorem configWriteBody_takes (p : Port) (vs : List Int) (s : State) :
    State.takes 15#8 p s (configWriteBody p vs s).state := by
  have refused (st : Status) : State.takes 15#8 p s (refuse st s).state := (State.calm.refl s).takes _ _
  unfold configWriteBody
  split
  · split
    · exact refused _
    · next m =>
      split
      · constructor
        case evolves => exact s.writeItem_evolves _ _ _
        case cfg => exact fun n => absurd (Decidable.not_not.1 m) n
        case trip => exact fun n => by simp [Decidable.not_not.1 m] at n
        case quiet => simp [State.writeItem_ports]
      · exact refused _
  · exact refused _

/-! ## Requests -/

/-- Every row of the catalogue (Table 10-4). -/
theorem catalogue_takes : ∀ r ∈ catalogue, ∀ (p : Port) (vs : List Int) (s : State), r.permitted p = true →
    State.takes r.code p s (r.body p vs s).state := by
  have calm {r : RequestRow} (h : ∀ p vs (s : State), s.calm (r.body p vs s).state) (p : Port) (vs : List Int) (s : State)
      (_ : r.permitted p = true) : State.takes r.code p s (r.body p vs s).state := (h p vs s).takes _ _
  simp only [catalogue, List.cons_append, List.nil_append, List.forall_mem_cons]
  exact ⟨calm fun _ _ s => .refl s, calm trainReportBody_calm, calm submitServiceBody_calm, calm cancelServiceBody_calm,
    calm queryOrderBody_calm, calm fun _ _ s => .refl s, calm seedInventoryBody_calm, calm holdBody_calm,
    calm resumeBody_calm, resetTripBody_takes, calm clearTrainBody_calm, calm clearInhibitBody_calm, handoverBody_takes,
    calm setWindowBody_calm, fun p vs s _ => configWriteBody_takes p vs s, calm configReadBody_calm,
    calm storeConfigBody_calm, calm startPlantBody_calm, calm restartBody_calm, calm syncTimeBody_calm,
    calm querySlotBody_calm, calm commitBody_calm, calm adjustBody_calm, calm withdrawBody_calm, calm openDayBody_calm,
    calm stageBody_calm, calm closeDayBody_calm, calm fun _ _ s => .refl s, calm sweepRestartBody_calm,
    calm fun _ _ s => .refl s, calm activateBody_calm, calm queryActiveBody_calm, calm ackCausesBody_calm,
    calm setCauseEnableBody_calm, fun _ h => absurd h List.not_mem_nil⟩

/-- R169 checks 1 to 5 on a frame of any code. -/
theorem takeCode_takes (code : Byte) (f : Frame) (s : State) :
    State.takes code f.port s (takeCode code f s).state := by
  have refused (st : Status) : State.takes code f.port s (refuse st s).state := (State.calm.refl s).takes _ _
  unfold takeCode
  split
  · next r found =>
    have row : r ∈ catalogue := List.mem_of_find?_eq_some found
    have named : r.code = code := by simpa using List.find?_some found
    unfold RequestRow.take
    split
    · next permitted =>
      split
      · exact named ▸ catalogue_takes r row f.port _ s permitted
      · exact refused _
    · exact refused _
  · exact refused _

/-- R166, R168, R169: a frame of any code, taken or not. -/
theorem State.serve_takes (s : State) (code : Byte) (f : Frame) :
    State.takes code f.port s (s.serve code f (takeCode code f)) := by
  have received := s.received_calm f.port
  unfold State.serve
  split
  · exact (State.calm.refl s).takes _ _
  · exact (State.calm.refl s).takes _ _
  · split
    · exact (s.modPort_calm _ fun k _ => k.skipFrame_quiet).takes _ _
    · split
      · exact ((received.andThen State.finish_calm).trans (State.setAnswer_calm _ _ _)).takes _ _
      · refine .of_calm received (by simp) (by simp) ?_
        refine (takeCode_takes code f _).then_calm ?_ (by simp)
        exact (State.finish_calm _).trans (State.setAnswer_calm _ _ _)

/-- Every request row is its frame, served by the row of its code (Table 10-4). -/
theorem exec_request {i : Instr} {code : Byte} {f : Frame} (h : i.request? = some (code, f)) (s : State) :
    exec i s = .next (s.serve code f (takeCode code f)) := by
  cases i <;> cases h <;> rfl

/-! ## Characters -/

/-- R166: at a port where no frame can end, a character ends none, and the port stays so. -/
theorem LinkPort.rxChar_quiet {k : LinkPort} (h : k.quiet) (c : RxChar) :
    (k.rxChar c).frame = none ∧ (k.rxChar c).port.quiet := by
  cases c with
  | framingError => exact ⟨rfl, k.skipFrame_quiet⟩
  | byte b =>
    rcases h with skip | ⟨hunt, busy⟩
    · simp [LinkPort.rxChar, LinkPort.rxByte, skip, LinkPort.quiet]
    · simp [LinkPort.rxChar, LinkPort.rxByte, hunt, busy, LinkPort.quiet]

/-- R166: the last byte of a frame, whatever its CRC. -/
theorem checkFrame_port (k : LinkPort) : (checkFrame k).port = k.frameEnd := by
  unfold checkFrame
  split
  · simp only []
    split <;> rfl
  · rfl

/-- R166: a character that ends a frame leaves the receiver where no further frame can end. -/
theorem LinkPort.rxChar_frame {k : LinkPort} {c : RxChar} {x : Byte × Byte × List Byte}
    (h : (k.rxChar c).frame = some x) : (k.rxChar c).port.quiet := by
  cases c with
  | framingError => exact k.skipFrame_quiet
  | byte b =>
    simp only [LinkPort.rxChar] at h ⊢
    unfold LinkPort.rxByte at h ⊢
    cases rx : k.rx with
    | hunt =>
      simp only [rx] at h
      split at h
      · split at h <;> cases h
      · cases h
    | skip => simp [rx] at h
    | header =>
      simp only [rx] at h
      split at h
      · cases h
      · split at h
        · cases h
        · split at h <;> cases h
    | payload =>
      simp only [rx] at h
      split at h <;> cases h
    | check =>
      simp only [rx] at h ⊢
      split
      · next short => simp [short] at h
      · rw [checkFrame_port]
        exact LinkPort.frameEnd_quiet _

theorem State.modPort_modPort (s : State) (p : Port) (f g : LinkPort → LinkPort) :
    (s.modPort p f).modPort p g = s.modPort p fun k => g (f k) := by
  simp [State.modPort]

theorem State.modPort_same (s : State) (p : Port) : (s.modPort p fun _ => s.port p) = s := by
  have same : s.ports.set p (s.ports.get p) = s.ports := by cases p <;> rfl
  simp only [State.modPort, State.port, same]

/-- R166: a character that ends no frame changes the receiver alone. -/
theorem State.receiveChar_none {s : State} {p : Port} {c : RxChar} (h : ((s.port p).rxChar c).frame = none) :
    s.receiveChar p c = s.modPort p fun k => (k.rxChar c).port := by
  unfold State.receiveChar
  simp only [h]
  rfl

/-- R166: characters at a port where no frame can end change the receiver alone. -/
theorem State.receiveChars_quiet (p : Port) (l : List RxChar) (s : State) (h : (s.port p).quiet) :
    ∃ k : LinkPort, k.quiet ∧ l.foldl (fun t c => t.receiveChar p c) s = s.modPort p fun _ => k := by
  induction l generalizing s with
  | nil => exact ⟨s.port p, h, (s.modPort_same p).symm⟩
  | cons c l ih =>
    obtain ⟨none, still⟩ := LinkPort.rxChar_quiet h c
    have port : ((s.modPort p fun k => (k.rxChar c).port).port p) = ((s.port p).rxChar c).port := by
      simp [State.port, State.modPort]
    obtain ⟨k, hk, rest⟩ := ih (s.modPort p fun k => (k.rxChar c).port) (port ▸ still)
    refine ⟨k, hk, ?_⟩
    rw [List.foldl_cons, State.receiveChar_none none, rest, State.modPort_modPort]

/-- R166: a change of a receiver that keeps it where no frame can end. -/
theorem State.modPort_rxChar_calm (s : State) (p : Port) (c : RxChar) :
    s.calm (s.modPort p fun k => (k.rxChar c).port) :=
  s.modPort_calm p fun _ h => (LinkPort.rxChar_quiet h c).2

/-- R166, R169: a character that ends a frame has it taken, and the port is then one where no frame can end. -/
theorem State.receiveChar_some {s : State} {p : Port} {c : RxChar} {seq code : Byte} {payload : List Byte}
    (h : ((s.port p).rxChar c).frame = some (seq, code, payload)) :
    State.takes code p s (s.receiveChar p c) ∧ ((s.receiveChar p c).port p).quiet := by
  let t := s.modPort p fun k => (k.rxChar c).port
  have served : s.receiveChar p c = t.serve code ⟨p, seq, payload⟩ (takeCode code ⟨p, seq, payload⟩) := by
    unfold State.receiveChar
    simp only [h]
    rfl
  have taken := t.serve_takes code ⟨p, seq, payload⟩
  rw [← served] at taken
  refine ⟨.of_calm (s.modPort_rxChar_calm p c) rfl rfl taken, taken.quiet p ?_⟩
  have port : t.ports.get p = ((s.port p).rxChar c).port := by simp [t, State.port, State.modPort]
  exact port ▸ LinkPort.rxChar_frame h

/-- R166: of characters with no gap between them at most one ends a frame; the others change the receiver alone. -/
theorem State.receiveChars_takes (p : Port) (l : List RxChar) (s : State) :
    (∃ k, l.foldl (fun t c => t.receiveChar p c) s = s.modPort p fun _ => k)
    ∨ ∃ a c b seq code payload, l = a ++ c :: b
      ∧ (((a.foldl (fun t c => t.receiveChar p c) s).port p).rxChar c).frame = some (seq, code, payload)
      ∧ State.takes code p s (l.foldl (fun t c => t.receiveChar p c) s) := by
  induction l generalizing s with
  | nil => exact .inl ⟨s.port p, (s.modPort_same p).symm⟩
  | cons c l ih =>
    rw [List.foldl_cons]
    cases frame : ((s.port p).rxChar c).frame with
    | none =>
      rcases ih (s.receiveChar p c) with ⟨k, rest⟩ | ⟨a, d, b, seq, code, payload, split, ends, taken⟩
      · refine .inl ⟨k, ?_⟩
        rw [rest, State.receiveChar_none frame, State.modPort_modPort]
      · refine .inr ⟨c :: a, d, b, seq, code, payload, by rw [split, List.cons_append], ends, ?_⟩
        refine .of_calm (t := s.receiveChar p c) ?_ ?_ ?_ taken
        all_goals rw [State.receiveChar_none frame]
        · exact s.modPort_rxChar_calm p c
        · rfl
        · rfl
    | some x =>
      obtain ⟨seq, code, payload⟩ := x
      obtain ⟨taken, quiet⟩ := State.receiveChar_some frame
      obtain ⟨k, hk, rest⟩ := State.receiveChars_quiet p l _ quiet
      refine .inr ⟨[], c, l, seq, code, payload, rfl, frame, ?_⟩
      rw [rest]
      exact taken.then_calm (State.modPort_calm _ p fun _ _ => hk) rfl

/-! ## Events -/

/-- R179: the image written is the store's alone, and the answer that waited the port's. -/
theorem State.imageWritten_calm (s : State) : s.calm s.imageWritten := by
  have sent (t : State) (p : Port) : t.calm (t.sendAwaited p) := by
    unfold State.sendAwaited
    split
    · exact t.setAnswer_calm _ _
    · exact .refl t
    · exact .refl t
  unfold State.imageWritten
  split
  · next copy p _ =>
    have stored : s.calm { s with store := s.store.written copy } := by constructor <;> simp [ConfigStore.written]
    exact (stored.andThen State.finish_calm).trans (sent _ p)
  · exact .refl s

/-- R180: the lines released and the supply. -/
theorem State.hold_calm (s : State) : s.calm s.hold := ⟨⟨id, id⟩, id, Timebase.follows_refl _, id, id, id, rfl, fun _ => id⟩

/-- R179: a loss of power leaves all but the lines, the supply and the image. -/
theorem lossOfPower_calm (s : State) : s.calm { s.hold with supply := .off, store := s.store.cut } := by
  have cut : s.store.cut.cfg = s.store.cfg := by
    unfold ConfigStore.cut
    split <;> rfl
  exact ⟨⟨id, id⟩, id, Timebase.follows_refl _, id, id, id, cut, fun _ => id⟩

/-- Every event but a cold reset, an idle line and characters. -/
theorem exec_event_calm {i : Instr} {s t : State} (h : i.request? = none) (cold : i ≠ .coldReset)
    (idle : ∀ p, i ≠ .rxIdleTimeout p) (chars : ∀ p l, i ≠ .frameDiscarded p l) (e : exec i s = .next t) : s.calm t := by
  have onPlant (f : Env → Plant → Plant) : s.calm (s.happen fun t => t.onPlant f) :=
    State.happen_calm (fun t => t.onPlant_calm f) s
  cases i with
  | imageWriteComplete =>
    simp only [exec, execImageWriteComplete] at e
    split at e <;> cases e
    · exact s.imageWritten_calm
    · exact .refl s
    · exact .refl s
  | answerSent p =>
    have sent (k : LinkPort) (q : k.quiet) : k.sent.quiet := by
      unfold LinkPort.sent
      split <;> exact q
    simp only [exec, execAnswerSent] at e
    split at e <;> cases e
    · exact s.modPort_calm p sent
    · exact .refl s
    · exact .refl s
  | wellheadSample wa wb =>
    cases e
    exact State.happen_calm (fun t => t.setInv_calm _ (t.inv.sample_follows _ (wa, wb))) s
  | qualifierSample l level => cases e; exact State.happen_calm (fun t => t.sampleLine_calm l level) s
  | timebaseSecond => cases e; exact State.happen_calm State.timebaseSecond_calm s
  | intervalTurn => cases e; exact State.happen_calm (State.secondWith_calm _) s
  | accountingSecond => cases e; exact State.happen_calm State.accountingSecond_calm s
  | sweepCycleComplete => cases e; exact State.happen_calm (State.secondWith_calm _) s
  | placementWaitExpiry => cases e; exact State.happen_calm (State.secondWith_calm _) s
  | budgetEnd entry => cases e; exact onPlant _
  | startWindowExpiry tr => cases e; exact onPlant _
  | stopWindowExpiry tr => cases e; exact onPlant _
  | restartInhibitExpiry tr => cases e; exact onPlant _
  | feedbackTimerExpiry tr => cases e; exact onPlant _
  | linkTimerExpiry p => cases e; exact State.happen_calm (fun t => t.linkOut_calm p) s
  | rstnLow =>
    simp only [exec, execRstnLow] at e
    split at e <;> cases e
    · exact .refl s
    · exact s.hold_calm
    · exact s.hold_calm
  | lossOfPower => cases e; exact lossOfPower_calm s
  | coldReset => exact absurd rfl cold
  | rxIdleTimeout p => exact absurd rfl (idle p)
  | frameDiscarded p l => exact absurd rfl (chars p l)
  | _ => cases h

/-! ## What a command may do -/

/-- Every command but a cold reset: it changes a receiver alone, is calm, or takes one frame that it brings. -/
theorem exec_cases {i : Instr} {s t : State} (cold : i ≠ .coldReset) (e : exec i s = .next t) :
    (∃ p k, t = s.modPort p fun _ => k) ∨ s.calm t
      ∨ ∃ code p, Sys2Proof.Claims.brings i s code p ∧ State.takes code p s t := by
  cases req : i.request? with
  | some x =>
    obtain ⟨code, f⟩ := x
    cases (exec_request req s).symm.trans e
    exact .inr (.inr ⟨code, f.port, .inl ⟨f, req, rfl⟩, s.serve_takes code f⟩)
  | none =>
    by_cases idle : ∃ p, i = .rxIdleTimeout p
    · obtain ⟨p, rfl⟩ := idle
      simp only [exec, execRxIdleTimeout] at e
      split at e <;> cases e
      · exact .inl ⟨p, (s.port p).idle, rfl⟩
      · exact .inr (.inl (.refl s))
      · exact .inr (.inl (.refl s))
    · by_cases chars : ∃ p l, i = .frameDiscarded p l
      · obtain ⟨p, l, rfl⟩ := chars
        simp only [exec, execFrameDiscarded] at e
        split at e <;> cases e
        · rcases s.receiveChars_takes p l with ⟨k, rest⟩ | ⟨a, c, b, seq, code, payload, split, ends, taken⟩
          · exact .inl ⟨p, k, rest⟩
          · exact .inr (.inr ⟨code, p, .inr ⟨a, c, b, seq, payload, by rw [split], ends⟩, taken⟩)
        · exact .inr (.inl (.refl s))
        · exact .inr (.inl (.refl s))
      · exact .inr (.inl (exec_event_calm req cold (fun p r => idle ⟨p, r⟩) (fun p l r => chars ⟨p, l, r⟩) e))

/-- Every command but a cold reset evolves the state. -/
theorem exec_evolves {i : Instr} {s t : State} (cold : i ≠ .coldReset) (e : exec i s = .next t) : s.evolves t := by
  rcases exec_cases cold e with ⟨p, k, rfl⟩ | calm | ⟨code, p, _, taken⟩
  · exact ⟨id, id, Timebase.follows_refl _, id, id⟩
  · exact calm.evolves
  · exact taken.evolves

/-- R180: the cold reset leaves the account empty and the headroom 0. -/
theorem State.cold_inRanges (l : List Instr) (c : ConfigStore) (n : Nat) : (State.cold l c n).inRanges := by
  refine (State.inRanges_iff _).2 ⟨?_, Headroom.recompute_within _ _ _ _⟩
  refine ⟨Nat.zero_le _, fun st => ?_, zero_in_gramRange.1, zero_in_gramRange.2, Nat.zero_le _, Nat.zero_le _, Nat.zero_le _⟩
  cases st <;> exact Nat.zero_le _

/-- Settles O53: an empty queue changes nothing, a cold reset empties the account, and every other command evolves the
state. -/
theorem stepsKeepTheRanges : Obligations.StepsKeepTheRanges := by
  intro s t ranges e
  unfold step at e
  split at e
  · cases e
    exact ranges
  · next i rest _ =>
    by_cases cold : i = .coldReset
    · subst cold
      cases e
      exact State.cold_inRanges _ _ _
    · exact (exec_evolves cold e).ranges ranges

/-- Settles O59: each of the three parts is read off what a command but a cold reset may do. -/
theorem whatOnlyCertainCommandsChange : Obligations.WhatOnlyCertainCommandsChange := by
  refine ⟨fun i s t e cold => ?_, fun i s t _ e cold working => ?_, fun i s t _ e trip left cold => ?_⟩
  · have evolved := exec_evolves cold e
    exact ⟨evolved.setup, evolved.seeded, evolved.tb, evolved.sweep⟩
  · rcases exec_cases cold e with ⟨p, k, rfl⟩ | calm | ⟨code, p, brought, taken⟩
    · exact .inl rfl
    · exact .inl calm.cfg
    · refine (taken.cfg working).imp_right ?_
      rintro ⟨rfl, plant, x, owner⟩
      exact ⟨x, p, plant, brought, owner⟩
  · rcases exec_cases cold e with ⟨p, k, rfl⟩ | calm | ⟨code, p, brought, taken⟩
    · exact absurd trip left
    · exact absurd (calm.trip trip) left
    · obtain ⟨hold, est, gof, rfl, plant⟩ := taken.trip trip left
      exact ⟨hold, est, gof, p, plant, brought⟩

end Sys2Proof.Machine
end

section
/-! PROOFS. The accounting second (R6, R7, R8, R10, R11): what judging the source, the account and the reconciliation leave, and what the
second hands on. -/

namespace Sys2Proof.Machine

open Sys2Proof.Claims

/-! ## The account's parts -/

/-- R1: a value brought into a range, as an integer. -/
theorem intoRange_cast (top : Nat) (x : Int) : (intoRange top x : Int) = min (max 0 x) top := by
  unfold intoRange
  omega

/-- R10: the mass of the trains of a kind for a store, as a sum. -/
theorem Inventory.reported_eq_sum (v : Inventory) (k : Kind) (st : Store) :
    v.reported k st = ((trainsOf k).map fun t => (v.acc.get t).get st).sum := by
  cases k <;> simp [Inventory.reported, trainsOf] <;> omega

/-- R10: a_c and a_x, as sums. -/
theorem Inventory.reportedAll_eq_sum (v : Inventory) (k : Kind) : v.reportedAll k = reportedSum v (trainsOf k) := by
  simp only [Inventory.reportedAll, Inventory.reported_eq_sum, reportedSum]
  cases k <;> simp [trainsOf, PerStore.get] <;> omega

/-- R10, R11: the account moves mass and heat, and only while SEEDED. -/
theorem Inventory.account_eq (v : Inventory) (cfg : Cfg) (mass : Int) (before : Inventory) :
    v.account cfg mass before = { v with
      mass := if v.seeded then intoRange massTop (v.mass + mass) else v.mass
      heat := if v.seeded then .of fun st => intoRange (cfg.capacity.get st)
          (v.heat.get st + (cfg.hc * before.reported .compress st : Nat) - (cfg.hd * before.reported .expand st : Nat))
        else v.heat } := by
  unfold Inventory.account
  split <;> rfl

/-- R14: an account that is UNSEEDED, under TRAIN_SUM, or without a wellhead mass is not reconciled. -/
theorem Inventory.reconcile_idle {v : Inventory} {wellhead : Option Int} (cfg : Cfg) (ac ax : Nat)
    (h : v.seeded = false ∨ v.source = .trainSum ∨ wellhead = none) :
    v.reconcile cfg wellhead ac ax = ⟨v, false, false⟩ := by
  unfold Inventory.reconcile
  split
  · next seeded source => simp [seeded, source] at h
  · rfl

/-- R14, R15: a second that counts is added to the window, which is judged when it is full. -/
theorem Inventory.reconcile_counts {v : Inventory} (cfg : Cfg) (w : Int) (ac ax : Nat) (seeded : v.seeded = true)
    (source : v.source = .wellhead) :
    let u := { v with
      sumWellhead := v.sumWellhead + w, sumTrains := v.sumTrains + ac - ax
      throughput := v.throughput + ac + ax, windowSeconds := v.windowSeconds + 1 }
    v.reconcile cfg (some w) ac ax = if cfg.window ≤ v.windowSeconds + 1 then u.judgeWindow cfg else ⟨u, false, false⟩ := by
  unfold Inventory.reconcile
  simp only [seeded, source]

/-- What judging a window leaves (R15). -/
theorem Inventory.judgeWindow_inv (v : Inventory) (cfg : Cfg) :
    ∃ streak fault, (v.judgeWindow cfg).inv = { v.emptyWindow with passStreak := streak, reconFault := fault } := by
  unfold Inventory.judgeWindow
  simp only []
  split <;> exact ⟨_, _, rfl⟩

/-- R14, R15: reconciliation moves the window, the streak of passes and RECON_FAULT alone. -/
theorem Inventory.reconcile_inv (v : Inventory) (cfg : Cfg) (wellhead : Option Int) (ac ax : Nat) :
    ∃ sumWellhead sumTrains throughput windowSeconds passStreak reconFault,
      (v.reconcile cfg wellhead ac ax).inv = { v with
        sumWellhead := sumWellhead, sumTrains := sumTrains, throughput := throughput, windowSeconds := windowSeconds
        passStreak := passStreak, reconFault := reconFault } := by
  unfold Inventory.reconcile
  split
  · simp only []
    split
    · obtain ⟨streak, fault, judged⟩ := Inventory.judgeWindow_inv { v with
        sumWellhead := _, sumTrains := _, throughput := _, windowSeconds := _ } cfg
      exact ⟨_, _, _, _, _, _, judged⟩
    · exact ⟨_, _, _, _, _, _, rfl⟩
  · exact ⟨_, _, _, _, _, _, rfl⟩

/-! ## Judging the source -/

/-- R7: the source is lost by this second. -/
def Inventory.lost (v : Inventory) : Prop := v.source = .wellhead ∧ v.secondValid = false ∧ 3 ≤ v.invalidStreak + 1

/-- R8: the source comes back by this second. -/
def Inventory.back (v : Inventory) : Prop := v.source = .trainSum ∧ v.secondValid = true ∧ 60 ≤ v.cleanStreak + 1

theorem Inventory.judgeSource_valid {v : Inventory} (cfg : Cfg) (source : v.source = .wellhead)
    (valid : v.secondValid = true) :
    let g := v.netCount * cfg.gramsPerCount + v.gramRem
    v.judgeSource cfg
      = ({ v with invalidStreak := 0, gramRem := g - 1000 * g.tdiv 1000 }, some (g.tdiv 1000), false) := by
  unfold Inventory.judgeSource
  simp only [source, valid, Inventory.grams]

theorem Inventory.judgeSource_lost {v : Inventory} (cfg : Cfg) (h : v.lost) :
    v.judgeSource cfg = ({ v.emptyWindow with
      source := .trainSum, invalidStreak := 0, cleanStreak := 0, gramRem := 0, reconFault := true, passStreak := 0 },
      none, true) := by
  obtain ⟨source, valid, streak⟩ := h
  unfold Inventory.judgeSource
  simp only [source, valid, if_neg (show ¬ v.invalidStreak + 1 < 3 by omega)]

theorem Inventory.judgeSource_invalid {v : Inventory} (cfg : Cfg) (source : v.source = .wellhead)
    (valid : v.secondValid = false) (h : ¬ v.lost) :
    v.judgeSource cfg = ({ v with invalidStreak := v.invalidStreak + 1 }, none, false) := by
  have streak : v.invalidStreak + 1 < 3 := Nat.lt_of_not_le fun long => h ⟨source, valid, long⟩
  unfold Inventory.judgeSource
  simp only [source, valid, if_pos streak]

theorem Inventory.judgeSource_back {v : Inventory} (cfg : Cfg) (h : v.back) :
    let g := v.netCount * cfg.gramsPerCount + 0
    v.judgeSource cfg = ({ v.emptyWindow with
      source := .wellhead, invalidStreak := 0, cleanStreak := 0, passStreak := 0, gramRem := g - 1000 * g.tdiv 1000 },
      some (g.tdiv 1000), true) := by
  obtain ⟨source, valid, streak⟩ := h
  unfold Inventory.judgeSource
  simp only [source, valid, if_neg (show ¬ v.cleanStreak + 1 < 60 by omega), Inventory.grams]

theorem Inventory.judgeSource_away {v : Inventory} (cfg : Cfg) (source : v.source = .trainSum) (h : ¬ v.back) :
    v.judgeSource cfg = ({ v with
      cleanStreak := if v.secondValid then v.cleanStreak + 1 else 0, gramRem := 0 }, none, false) := by
  unfold Inventory.judgeSource
  cases valid : v.secondValid with
  | false => simp [source]
  | true =>
    have streak : v.cleanStreak + 1 < 60 := Nat.lt_of_not_le fun long => h ⟨source, valid, long⟩
    simp [source, streak]

/-- R6, R7, R8, Table 1-4: the five ways in which a second finds the source. -/
theorem Inventory.source_cases (v : Inventory) :
    (v.source = .wellhead ∧ v.secondValid = true) ∨ v.lost
    ∨ (v.source = .wellhead ∧ v.secondValid = false ∧ ¬ v.lost) ∨ v.back ∨ (v.source = .trainSum ∧ ¬ v.back) := by
  by_cases lost : v.lost
  · exact .inr (.inl lost)
  · by_cases back : v.back
    · exact .inr (.inr (.inr (.inl back)))
    · cases v.source <;> cases v.secondValid <;> simp [lost, back]

/-- R6, R8, Table 1-4: the second's wellhead mass. -/
theorem State.judgeSource_mass (s : State) : (s.inv.judgeSource s.store.cfg).2.1 = wellheadMass s := by
  unfold wellheadMass gramsOf
  rcases s.inv.source_cases with ⟨source, valid⟩ | h | ⟨source, valid, h⟩ | h | ⟨source, h⟩
  · simp [Inventory.judgeSource_valid _ source valid, source, valid]
  · simp [Inventory.judgeSource_lost _ h, h.2.1]
  · simp [Inventory.judgeSource_invalid _ source valid h, valid]
  · simp [Inventory.judgeSource_back _ h, h.1, h.2.1, h.2.2]
  · simp only [Inventory.judgeSource_away _ source h, source]
    rw [if_neg]
    rintro ⟨valid, e | streak⟩
    · cases e
    · exact h ⟨source, valid, streak⟩

/-- R6: the grams left over by a second with a wellhead mass. -/
theorem State.judgeSource_grams (s : State) (h : hasWellhead s.inv) :
    (s.inv.judgeSource s.store.cfg).1.gramRem = gramsOf s - 1000 * (gramsOf s).tdiv 1000 := by
  obtain ⟨valid, source⟩ := h
  unfold gramsOf
  cases meter : s.inv.source with
  | wellhead => simp [Inventory.judgeSource_valid _ meter valid]
  | trainSum =>
    have back : s.inv.back := ⟨meter, valid, by simpa [meter] using source⟩
    simp [Inventory.judgeSource_back _ back]

/-- Judging the source leaves the account, the accumulators and the decoder's reference. -/
theorem Inventory.judgeSource_keeps (v : Inventory) (cfg : Cfg) :
    let j := (v.judgeSource cfg).1
    j.mass = v.mass ∧ j.heat = v.heat ∧ j.seeded = v.seeded ∧ j.reference = v.reference ∧ j.lastStore = v.lastStore := by
  rcases v.source_cases with ⟨source, valid⟩ | h | ⟨source, valid, h⟩ | h | ⟨source, h⟩
  · simp [Inventory.judgeSource_valid _ source valid]
  · simp [Inventory.judgeSource_lost _ h, Inventory.emptyWindow]
  · simp [Inventory.judgeSource_invalid _ source valid h]
  · simp [Inventory.judgeSource_back _ h, Inventory.emptyWindow]
  · simp [Inventory.judgeSource_away _ source h]

/-! ## The second as a whole -/

/-- The account after the source has been judged and the second's mass and heat have moved. -/
def Inventory.accounted (v : Inventory) (cfg : Cfg) : Inventory :=
  { (v.judgeSource cfg).1 with
    acc := .all (.all 0)
    netCount := 0
    secondValid := true
    mass := if v.seeded then intoRange massTop (v.mass + secondMass (v.judgeSource cfg).2.1 (v.reportedAll .compress)
      (v.reportedAll .expand)) else v.mass
    heat := if v.seeded then .of fun st => intoRange (cfg.capacity.get st)
        (v.heat.get st + (cfg.hc * v.reported .compress st : Nat) - (cfg.hd * v.reported .expand st : Nat))
      else v.heat }

/-- R10: the second is that account, reconciled. -/
theorem Inventory.second_eq (v : Inventory) (cfg : Cfg) :
    let r := (v.accounted cfg).reconcile cfg (v.judgeSource cfg).2.1 (v.reportedAll .compress) (v.reportedAll .expand)
    v.second cfg = ⟨r.inv, (v.judgeSource cfg).2.2, r.raised, v.seeded && heatLimited cfg v (v.accounted cfg), r.gross⟩ := by
  obtain ⟨mass, heat, seeded, _⟩ := v.judgeSource_keeps cfg
  have accounted : (v.judgeSource cfg).1.nextSecond.account cfg (secondMass (v.judgeSource cfg).2.1
      (v.reportedAll .compress) (v.reportedAll .expand)) v = v.accounted cfg := by
    rw [Inventory.account_eq]
    simp only [Inventory.nextSecond, mass, heat, seeded, Inventory.accounted]
  unfold Inventory.second
  simp only [accounted]

/-- R10, R14: the account a second leaves. -/
theorem Inventory.second_inv (v : Inventory) (cfg : Cfg) :
    ∃ sumWellhead sumTrains throughput windowSeconds passStreak reconFault, (v.second cfg).inv = { v.accounted cfg with
      sumWellhead := sumWellhead, sumTrains := sumTrains, throughput := throughput, windowSeconds := windowSeconds
      passStreak := passStreak, reconFault := reconFault } := by
  rw [Inventory.second_eq]
  exact Inventory.reconcile_inv _ _ _ _ _

/-! ## What the second hands on -/

/-- R7, R11, R16: the state between the account and the headroom: the causes raised, and the hold of a gross mismatch. -/
def State.secondRaised (s : State) (v : Inventory) (recon limit hold : Bool) : State :=
  let p := if recon then s.plant.raiseOn [.mk, .pa, .pb] .recon else s.plant
  let u : State := { s with inv := v, plant := if limit then p.raiseOn [.pa, .pb] .heatLimit else p }
  if hold then u.enterHold else u

@[simp] theorem State.secondRaised_inv (s : State) (v : Inventory) (recon limit hold : Bool) :
    (s.secondRaised v recon limit hold).inv = v := by
  unfold State.secondRaised
  cases hold <;> simp

/-- What the causes and the hold leave as it was. -/
theorem State.secondRaised_keeps (s : State) (v : Inventory) (recon limit hold : Bool) :
    let w := s.secondRaised v recon limit hold
    w.tb = s.tb ∧ w.book = s.book ∧ w.sweep = s.sweep ∧ w.ports = s.ports ∧ w.store = s.store ∧ w.head = s.head
      ∧ w.prot.timers = s.prot.timers ∧ w.prot.lines = s.prot.lines ∧ w.prot.isolated = s.prot.isolated := by
  unfold State.secondRaised
  cases hold <;> simp [State.enterHold]

/-- R16, R158: the mode after the causes and the hold. -/
theorem State.secondRaised_mode (s : State) (v : Inventory) (recon limit hold : Bool) :
    (s.secondRaised v recon limit hold).prot.mode = if hold then .hold else s.prot.mode := by
  unfold State.secondRaised
  cases hold <;> simp

/-- R16, R158: HOLD is asked for in the mode as it stands. -/
theorem State.secondRaised_eq (s : State) (v : Inventory) (recon limit gross : Bool) :
    (let t : State := { s with inv := v }
      let t := if recon then t.raiseRecon else t
      let t := if limit then t.raiseOn [.pa, .pb] .heatLimit else t
      if gross then t.holdCondition else t)
      = s.secondRaised v recon limit (gross && s.prot.mode == .normal) := by
  have raised : (let t : State := { s with inv := v }
      let t := if recon then t.raiseRecon else t
      if limit then t.raiseOn [.pa, .pb] .heatLimit else t) = s.secondRaised v recon limit false := by
    cases recon <;> cases limit <;> rfl
  have mode : (s.secondRaised v recon limit false).prot.mode = s.prot.mode := s.secondRaised_mode v recon limit false
  simp only [raised, State.holdCondition, mode]
  by_cases normal : s.prot.mode = .normal <;> cases gross <;> simp [normal, State.secondRaised]

/-- R16, R22, R123: the accounting second, block by block. -/
theorem State.accountingSecond_eq (s : State) :
    let r := s.inv.second s.store.cfg
    let w := s.secondRaised r.inv (r.source || r.window) r.limit (r.gross && s.prot.mode == .normal)
    s.accountingSecond = { w with
      head := s.head.recompute s.store.cfg r.inv s.prot.isolated
      plant := w.plant.evaluateGates { w.env with heat := r.inv.heat } } := by
  intro r w
  obtain ⟨_, _, _, _, store, head, _, _, isolated⟩ :
      w.tb = s.tb ∧ w.book = s.book ∧ w.sweep = s.sweep ∧ w.ports = s.ports ∧ w.store = s.store ∧ w.head = s.head
        ∧ w.prot.timers = s.prot.timers ∧ w.prot.lines = s.prot.lines ∧ w.prot.isolated = s.prot.isolated :=
    s.secondRaised_keeps _ _ _ _
  have inv : w.inv = r.inv := s.secondRaised_inv _ _ _ _
  have handed : s.accountingSecond = w.recomputeHeadroom.onPlant fun env p => p.evaluateGates env :=
    congrArg (fun t : State => t.recomputeHeadroom.onPlant fun env p => p.evaluateGates env)
      (s.secondRaised_eq r.inv (r.source || r.window) r.limit r.gross)
  rw [handed, ← head, ← store, ← isolated, ← inv]
  rfl

/-! ## The statement on the account -/

/-- The blocks that an accounting second leaves as they were. -/
theorem State.accountingSecond_keeps (s : State) :
    let t := s.accountingSecond.finish
    t.inv = (s.inv.second s.store.cfg).inv ∧ t.tb = s.tb ∧ t.book = s.book ∧ t.sweep = s.sweep ∧ t.ports = s.ports
      ∧ t.store = s.store ∧ t.prot.timers = s.prot.timers ∧ t.prot.lines = s.prot.lines
      ∧ t.prot.isolated = s.prot.isolated := by
  obtain ⟨tb, book, sweep, ports, store, _, timers, lines, isolated⟩ := s.secondRaised_keeps
    (s.inv.second s.store.cfg).inv ((s.inv.second s.store.cfg).source || (s.inv.second s.store.cfg).window)
    (s.inv.second s.store.cfg).limit ((s.inv.second s.store.cfg).gross && s.prot.mode == .normal)
  rw [State.accountingSecond_eq]
  exact ⟨State.secondRaised_inv _ _ _ _ _, tb, book, sweep, ports, store, timers, lines, isolated⟩

/-- R7, R8, Table 1-3: the source and its streaks after a second. -/
theorem Inventory.judgeSource_streaks (v : Inventory) (cfg : Cfg) :
    let j := (v.judgeSource cfg).1
    (v.lost → j.source = .trainSum ∧ j.invalidStreak = 0 ∧ j.cleanStreak = 0 ∧ j.gramRem = 0)
    ∧ (v.back → j.source = .wellhead ∧ j.invalidStreak = 0 ∧ j.cleanStreak = 0)
    ∧ (¬ v.lost → ¬ v.back → j.source = v.source)
    ∧ (v.source = .wellhead → ¬ v.lost → j.invalidStreak = if v.secondValid then 0 else v.invalidStreak + 1)
    ∧ (v.source = .trainSum → ¬ v.back → j.gramRem = 0
        ∧ j.cleanStreak = if v.secondValid then v.cleanStreak + 1 else 0)
    ∧ (v.source = .wellhead → v.secondValid = false → ¬ v.lost → j.gramRem = v.gramRem) := by
  rcases v.source_cases with ⟨source, valid⟩ | h | ⟨source, valid, h⟩ | h | ⟨source, h⟩
  · simp [Inventory.judgeSource_valid _ source valid, Inventory.lost, Inventory.back, source, valid]
  · simp [Inventory.judgeSource_lost _ h, h, h.1, Inventory.back]
  · simp [Inventory.judgeSource_invalid _ source valid h, h, Inventory.back, source, valid]
  · simp [Inventory.judgeSource_back _ h, h, h.1, Inventory.lost]
  · simp [Inventory.judgeSource_away _ source h, h, Inventory.lost, source]

/-- R7: a second that loses the meter leaves RECON_FAULT set: nothing is reconciled under TRAIN_SUM. -/
theorem Inventory.second_lost (v : Inventory) (cfg : Cfg) (h : v.lost) : (v.second cfg).inv.reconFault = true := by
  rw [Inventory.second_eq, Inventory.judgeSource_lost cfg h, Inventory.reconcile_idle cfg _ _ (.inr (.inr rfl))]
  simp [Inventory.accounted, Inventory.judgeSource_lost cfg h]

/-- R10, R11, Table 1-4: the mass of a SEEDED account after a second. -/
theorem State.accounted_mass (s : State) (seeded : s.inv.seeded = true) :
    ((s.inv.accounted s.store.cfg).mass : Int) = min (max 0 (s.inv.mass + secondMass (wellheadMass s)
      (reportedSum s.inv (trainsOf .compress)) (reportedSum s.inv (trainsOf .expand)))) 40000000 := by
  simp only [Inventory.accounted, seeded, if_true, intoRange_cast, State.judgeSource_mass, Inventory.reportedAll_eq_sum]
  rfl

/-- R11: a store's heat in a SEEDED account after a second. -/
theorem Inventory.accounted_heat (v : Inventory) (cfg : Cfg) (seeded : v.seeded = true) (st : Store) :
    ((v.accounted cfg).heat.get st : Int) = min (max 0 (v.heat.get st
      + cfg.hc * ((trainsOf .compress).map fun x => (v.acc.get x).get st).sum
      - cfg.hd * ((trainsOf .expand).map fun x => (v.acc.get x).get st).sum)) (cfg.capacity.get st) := by
  simp only [Inventory.accounted, seeded, if_true, PerStore.get_of, intoRange_cast, Inventory.reported_eq_sum]
  omega

/-- Settles O47: what the second leaves is the account after its source was judged, reconciled. -/
theorem accountingSecondMovesTheAccount : Obligations.AccountingSecondMovesTheAccount := by
  intro s hs v c g ac ax lost back
  obtain ⟨inv, tb, book, sweep, ports, store, timers, lines, isolated⟩ := s.accountingSecond_keeps
  obtain ⟨_, _, seeded, reference, lastStore⟩ := v.judgeSource_keeps c
  obtain ⟨whenLost, whenBack, otherwise, invalid, clean, noMass⟩ := v.judgeSource_streaks c
  have fault := v.second_lost c
  obtain ⟨_, _, _, _, _, _, second⟩ := v.second_inv c
  have happened : exec .accountingSecond s = .next s.accountingSecond.finish := congrArg _ (s.happen_running hs _)
  refine ⟨_, happened, ?_⟩
  rw [inv]
  rw [second] at fault ⊢
  refine ⟨rfl, rfl, rfl, reference, seeded, lastStore, fun h => ?_, whenBack, otherwise, invalid, clean,
    s.judgeSource_grams, noMass, fun seeded meter => ?_, fun seeded meter => ?_, v.accounted_heat c, fun unseeded => ?_,
    tb, book, sweep, ports, store, timers, lines, isolated⟩
  · obtain ⟨source, streak, cleanStreak, grams⟩ := whenLost h
    exact ⟨source, streak, cleanStreak, grams, fault h⟩
  · have mass : wellheadMass s = some (g.tdiv 1000) := if_pos meter
    exact (mass ▸ s.accounted_mass seeded :)
  · have noMass : wellheadMass s = none := if_neg meter
    refine (s.accounted_mass seeded).trans ?_
    simp only [noMass, secondMass, ac, ax, v]
    omega
  · simp [Inventory.accounted, unseeded]

end Sys2Proof.Machine
end

section
/-! PROOFS. The cause flags through the dispatch machinery (R106, R171): its operations on orders, gates and trains raise nothing, and a
retarget raises TABLE_FULL on PA and PB alone (R97). -/

namespace Sys2Proof.Machine

/-! ## Operations that raise nothing -/

theorem Plant.foldl_causes {α : Type} {f : Plant → α → Plant} (h : ∀ p a, (f p a).causes = p.causes) (l : List α)
    (p : Plant) : (l.foldl f p).causes = p.causes := by
  induction l generalizing p with
  | nil => rfl
  | cons a l ih => exact (ih _).trans (h p a)

@[simp] theorem Plant.causes_tick (p : Plant) : p.tick.causes = p.causes := rfl
@[simp] theorem Plant.causes_event (p : Plant) : p.event.causes = p.causes := rfl

@[simp] theorem Plant.causes_leave (p : Plant) (e : Entry) : (p.leave e).causes = p.causes := by
  unfold Plant.leave
  simp only []
  split
  · rfl
  · rfl
  · split <;> rfl
  · split <;> rfl
  · rfl
  · rfl

@[simp] theorem Plant.causes_readyTail (p : Plant) (e : Entry) : (p.readyTail e).causes = p.causes := rfl
@[simp] theorem Plant.causes_readyHead (p : Plant) (e : Entry) : (p.readyHead e).causes = p.causes := rfl

@[simp] theorem Plant.causes_toWait (p : Plant) (e : Entry) : (p.toWait e).causes = p.causes := p.causes_leave e

@[simp] theorem Plant.causes_promote (p : Plant) (g : Store × Kind) : (p.promote g).causes = p.causes := by
  unfold Plant.promote
  split
  · rfl
  · simp only []
    split <;> rfl

@[simp] theorem Plant.causes_promoteN (p : Plant) (g : Store × Kind) (n : Nat) : (p.promoteN g n).causes = p.causes := by
  induction n generalizing p with
  | zero => rfl
  | succ n ih => exact (ih _).trans (p.causes_promote g)

@[simp] theorem Plant.causes_promoteFreed (p before : Plant) : (p.promoteFreed before).causes = p.causes := by
  refine Plant.foldl_causes (fun q g => ?_) gateList p
  split
  · exact q.causes_promoteN g _
  · rfl

@[simp] theorem Plant.causes_keepStaged (p : Plant) (t : Train) : (p.keepStaged t).causes = p.causes := by
  rw [Plant.keepStaged_eq]

@[simp] theorem Plant.causes_toStopping (p : Plant) (cfg : Cfg) (t : Train) : (p.toStopping cfg t).causes = p.causes := by
  rw [Plant.toStopping_eq]

@[simp] theorem Plant.causes_post (p : Plant) (t : Train) : (p.post t).causes = p.causes := by
  unfold Plant.post
  split <;> rfl

@[simp] theorem Plant.causes_dropCurrent (p : Plant) (t : Train) : (p.dropCurrent t).causes = p.causes := by
  unfold Plant.dropCurrent
  split <;> simp

@[simp] theorem Plant.causes_retireOne (p : Plant) (cfg : Cfg) (e : Entry) (cause : RetireCause) :
    (p.retireOne cfg e cause).causes = p.causes := by
  unfold Plant.retireOne
  simp only [Plant.causes_event, Plant.causes_tick, Plant.causes_modOrd]
  split
  · split <;> simp
  · simp

@[simp] theorem Plant.causes_retireSet (p : Plant) (cfg : Cfg) (l : List (Entry × RetireCause)) :
    (p.retireSet cfg l).causes = p.causes := by
  unfold Plant.retireSet
  rw [Plant.causes_promoteFreed]
  exact Plant.foldl_causes (fun q x => q.causes_retireOne cfg x.1 x.2) l p

theorem Plant.causes_create {p q : Plant} {env : Env} {n : NewOrder} {e : Entry} (h : p.create env n = some (e, q)) :
    q.causes = p.causes := by
  unfold Plant.create at h
  split at h
  · cases h
  · cases h
    rfl

@[simp] theorem Plant.causes_createN (p : Plant) (env : Env) (n : NewOrder) (count : Nat) :
    (p.createN env n count).2.causes = p.causes := by
  induction count generalizing p with
  | zero => rfl
  | succ count ih =>
    unfold Plant.createN
    split
    · rfl
    · next created => exact (ih _).trans (Plant.causes_create created)

@[simp] theorem Plant.causes_lacking (p : Plant) (env : Env) (o : Origin) (tgt : Target) (kept : Nat) :
    (p.lacking env o tgt kept).2.causes = p.causes := by
  unfold Plant.lacking
  split <;> simp

@[simp] theorem Plant.causes_setSetpoint (p : Plant) (e : Entry) (w : Nat) : (p.setSetpoint e w).causes = p.causes := by
  unfold Plant.setSetpoint
  split
  · rfl
  · simp only []
    split <;> simp

@[simp] theorem Plant.causes_split (p : Plant) (cfg : Cfg) (k : Kind) (w n i : Nat) (l : List Entry) :
    (p.split cfg k w n i l).causes = p.causes := by
  induction l generalizing p i with
  | nil => rfl
  | cons e l ih => exact (ih _ _).trans (p.causes_setSetpoint e _)

@[simp] theorem Plant.causes_splitTarget (p : Plant) (cfg : Cfg) (tgt : Target) (l : List Entry) :
    (p.splitTarget cfg tgt l).causes = p.causes := by
  unfold Plant.splitTarget
  split <;> simp

@[simp] theorem Plant.causes_openGate (p : Plant) (cfg : Cfg) (g : Store × Kind) : (p.openGate cfg g).causes = p.causes := by
  simp [Plant.openGate]

@[simp] theorem Plant.causes_testGate (p : Plant) (env : Env) (g : Store × Kind) : (p.testGate env g).causes = p.causes := by
  unfold Plant.testGate
  split
  · rfl
  · split <;> split <;> simp

@[simp] theorem Plant.causes_holdTrains (p : Plant) (cfg : Cfg) (mask : PerTrain Bool) :
    (p.holdTrains cfg mask).causes = p.causes := by
  unfold Plant.holdTrains
  simp only [Plant.causes_promoteFreed]
  refine Plant.foldl_causes (fun q t => ?_) trainList p
  split
  · rfl
  · split <;> simp

/-! ## The dispatch pass -/

@[simp] theorem Plant.causes_makeCurrent (p : Plant) (e : Entry) (t : Train) : (p.makeCurrent e t).causes = p.causes := by
  simp [Plant.makeCurrent]

@[simp] theorem Plant.causes_place (p : Plant) (env : Env) (e : Entry) (t : Train) :
    (p.place env e t).causes = p.causes := by
  simp [Plant.place]

@[simp] theorem Plant.causes_stageOn (p : Plant) (e : Entry) (t : Train) : (p.stageOn e t).causes = p.causes := by
  simp [Plant.stageOn]

@[simp] theorem Plant.causes_relabel (p : Plant) (e : Entry) (t : Train) (v : Entry) :
    (p.relabel e t v).causes = p.causes := by
  simp [Plant.relabel]

@[simp] theorem Plant.causes_unbar (p : Plant) (env : Env) (e : Entry) : (p.unbar env e).causes = p.causes := by
  unfold Plant.unbar
  simp only []
  split <;> rfl

@[simp] theorem Plant.causes_considerReady (p : Plant) (env : Env) (e : Entry) :
    (p.considerReady env e).causes = p.causes := by
  unfold Plant.considerReady
  simp only []
  split
  · simp
  · split
    · split <;> simp
    · split
      · simp
      · split
        · simp
        · simp
        · split <;> simp

@[simp] theorem Plant.causes_considerStaged (p : Plant) (env : Env) (e : Entry) :
    (p.considerStaged env e).causes = p.causes := by
  unfold Plant.considerStaged
  split
  · split <;> simp
  · rfl

@[simp] theorem Plant.causes_consider (start p : Plant) (env : Env) (e : Entry) :
    (Plant.consider start p env e).causes = p.causes := by
  unfold Plant.consider
  split <;> simp

@[simp] theorem Plant.causes_pass (p : Plant) (env : Env) : (p.pass env).causes = p.causes :=
  Plant.foldl_causes (fun q e => p.causes_consider q env e) p.passOrder { p with due := false }

@[simp] theorem Plant.causes_passes (env : Env) (n : Nat) (p : Plant) : (Plant.passes env n p).causes = p.causes := by
  induction n generalizing p with
  | zero => rfl
  | succ n ih =>
    unfold Plant.passes
    split
    · exact (ih _).trans (p.causes_pass env)
    · rfl

/-- R106: the passes of an event raise nothing. -/
@[simp] theorem Plant.causes_dispatch (p : Plant) (env : Env) : (p.dispatch env).causes = p.causes := by
  unfold Plant.dispatch
  split <;> simp

/-- R106, R171: the end of a step raises nothing. -/
@[simp] theorem State.finish_causes (s : State) : s.finish.plant.causes = s.plant.causes := s.plant.causes_dispatch s.env

/-! ## Raising -/

theorem Causes.raise_bit (x : Causes) (mask : Word16) (n : Nat) :
    (x.raise mask).flags.getLsbD n = (x.flags.getLsbD n || (mask.getLsbD n && x.enables.getLsbD n)) := by
  simp [Causes.raise]

/-- Table 10-5: a cause's word has the cause's bit alone. -/
theorem causeMask_bit {p : Port} {c : Cause} {b : Nat} (h : causeBit p c = some b) (small : b < 16) (n : Nat) :
    (causeMask p c).getLsbD n = decide (n = b) := by
  simp only [causeMask, h, BitVec.getLsbD_shiftLeft, BitVec.getLsbD_one]
  by_cases e : n = b
  · subst e
    simp [small]
  · simp [e]
    omega

/-- R171: a cause raised on a condition, bit by bit; the enables stay. -/
theorem Causes.raiseIf_bit (x : Causes) (c : Bool) (mask : Word16) (n : Nat) :
    (if c then x.raise mask else x).flags.getLsbD n
      = (x.flags.getLsbD n || (c && (mask.getLsbD n && x.enables.getLsbD n))) := by
  cases c
  · simp only [Bool.false_eq_true, if_false, Bool.false_and, Bool.or_false]
  · simp only [if_true, Causes.raise_bit, Bool.true_and]

theorem Causes.raiseIf_enables (x : Causes) (c : Bool) (mask : Word16) :
    (if c then x.raise mask else x).enables = x.enables := by
  cases c <;> rfl

theorem Plant.causes_raise (p : Plant) (q x : Port) (c : Cause) :
    (p.raise q c).causes.get x = if x = q then (p.causes.get q).raise (causeMask q c) else p.causes.get x :=
  PerPort.get_set _ _ _ _

/-- R171: a cause raised on each of several links, each once. -/
theorem Plant.causes_raiseOn (p : Plant) (l : List Port) (c : Cause) (h : l.Nodup) (x : Port) :
    (p.raiseOn l c).causes.get x = if x ∈ l then (p.causes.get x).raise (causeMask x c) else p.causes.get x := by
  induction l generalizing p with
  | nil => rfl
  | cons q l ih =>
    obtain ⟨fresh, nodup⟩ := List.nodup_cons.1 h
    have tail := ih (p.raise q c) nodup
    rw [Plant.raiseOn, List.foldl_cons]
    rw [Plant.raiseOn] at tail
    rw [tail, Plant.causes_raise]
    by_cases e : x = q
    · subst e
      simp [fresh]
    · simp [e]

/-- Of a plant link, all but HOLD and TABLE_FULL (Table 10-5, bits 2 and 6) stays. -/
def Causes.butHoldAndFull (x y : Causes) : Prop :=
  y.enables = x.enables ∧ ∀ n, n ≠ 2 → n ≠ 6 → y.flags.getLsbD n = x.flags.getLsbD n

theorem Causes.butHoldAndFull.refl (x : Causes) : x.butHoldAndFull x := ⟨rfl, fun _ _ _ => rfl⟩

theorem Causes.butHoldAndFull.trans {x y z : Causes} (h : x.butHoldAndFull y) (k : y.butHoldAndFull z) :
    x.butHoldAndFull z :=
  ⟨k.1.trans h.1, fun n two six => (k.2 n two six).trans (h.2 n two six)⟩

/-- What raises nothing but TABLE_FULL on PA and PB (R97). -/
def Plant.mayBeFull (p q : Plant) : Prop :=
  (∀ x, isPlant x = false → q.causes.get x = p.causes.get x)
  ∧ ∀ x, (p.causes.get x).butHoldAndFull (q.causes.get x)

theorem Plant.mayBeFull.of_eq {p q : Plant} (h : q.causes = p.causes) : p.mayBeFull q :=
  ⟨fun _ _ => by rw [h], fun _ => h ▸ .refl _⟩

theorem Plant.mayBeFull.trans {p q r : Plant} (h : p.mayBeFull q) (k : q.mayBeFull r) : p.mayBeFull r :=
  ⟨fun x other => (k.1 x other).trans (h.1 x other), fun x => (h.2 x).trans (k.2 x)⟩

theorem Plant.raiseFull_mayBeFull (p : Plant) : p.mayBeFull (p.raiseOn [.pa, .pb] .tableFull) := by
  constructor
  · intro x other
    rw [Plant.causes_raiseOn _ _ _ (by decide), if_neg]
    rintro member
    cases x <;> simp_all [isPlant]
  · intro x
    rw [Plant.causes_raiseOn _ _ _ (by decide)]
    split
    · next member =>
      refine ⟨rfl, fun n _ six => ?_⟩
      have mask : (causeMask x .tableFull).getLsbD n = false := by
        have bit : causeBit x .tableFull = some 6 := by cases x <;> simp_all [causeBit]
        rw [causeMask_bit bit (by decide), decide_eq_false six]
      rw [Causes.raise_bit, mask, Bool.false_and, Bool.or_false]
    · exact .refl _

/-- R97: a retarget. -/
theorem Plant.retarget_mayBeFull (p : Plant) (env : Env) : p.mayBeFull (p.retarget env) := by
  unfold Plant.retarget
  simp only []
  split
  · refine .trans (.of_eq ?_) (Plant.raiseFull_mayBeFull _)
    simp
  · refine .of_eq ?_
    simp

theorem Plant.retireAll_mayBeFull (p : Plant) (env : Env) (l : List (Entry × RetireCause)) :
    p.mayBeFull (p.retireAll env l) := by
  unfold Plant.retireAll
  simp only []
  split
  · exact .of_eq rfl
  · split
    · exact .trans (.of_eq (p.causes_retireSet env.cfg l)) (Plant.retarget_mayBeFull _ env)
    · exact .of_eq (p.causes_retireSet env.cfg l)

/-- R125: an evaluation of the gates. -/
theorem Plant.evaluateGates_mayBeFull (p : Plant) (env : Env) : p.mayBeFull (p.evaluateGates env) :=
  .trans (.of_eq (Plant.foldl_causes (fun q g => q.causes_testGate env g) gateList p)) (Plant.retireAll_mayBeFull _ env _)

/-- R84: the targets re-formed. -/
theorem State.reform_mayBeFull (s : State) : s.plant.mayBeFull s.reform.plant := by
  unfold State.reform
  simp only []
  split
  · exact .of_eq rfl
  · exact Plant.retarget_mayBeFull _ _

end Sys2Proof.Machine
end

section
/-! PROOFS. The reconciliation window and what an accounting second raises (R7, R8, R11, R14 to R17). -/

namespace Sys2Proof.Machine

open Sys2Proof.Claims

/-! ## The window -/

/-- R15 to R17: a judged window, with the tolerance as the rule gives it. -/
theorem Inventory.judgeWindow_eq (v : Inventory) (cfg : Cfg) (h : 0 ≤ v.throughput) :
    let d := (v.sumWellhead - v.sumTrains).natAbs
    let tol : Int := cfg.tAbs + v.throughput * cfg.tRel / 1000
    v.judgeWindow cfg = if (d : Int) ≤ tol then
        ⟨{ v.emptyWindow with
            passStreak := min 3 (v.passStreak + 1), reconFault := v.reconFault && decide (v.passStreak + 1 < 3) },
          v.reconFault && decide (3 ≤ v.passStreak + 1), false⟩
      else ⟨{ v.emptyWindow with passStreak := 0, reconFault := true }, !v.reconFault, decide (4 * tol < d)⟩ := by
  intro d tol
  have part : 0 ≤ v.throughput * cfg.tRel / 1000 := Int.ediv_nonneg (Int.mul_nonneg h (Int.natCast_nonneg _)) (by decide)
  have tolNat : ((cfg.tAbs + (v.throughput * cfg.tRel / 1000).toNat : Nat) : Int) = tol := by
    simp only [tol]
    omega
  have third : (min 3 (v.passStreak + 1) == 3) = decide (3 ≤ v.passStreak + 1) := by
    rw [Bool.eq_iff_iff, beq_iff_eq, decide_eq_true_eq]
    omega
  have short : decide (v.passStreak + 1 < 3) = !decide (3 ≤ v.passStreak + 1) := by
    rw [← decide_not]
    exact decide_eq_decide.2 (by omega)
  have passes : d ≤ cfg.tAbs + (v.throughput * cfg.tRel / 1000).toNat ↔ (d : Int) ≤ tol := by omega
  have gross : 4 * (cfg.tAbs + (v.throughput * cfg.tRel / 1000).toNat) < d ↔ 4 * tol < d := by omega
  unfold Inventory.judgeWindow
  by_cases pass : (d : Int) ≤ tol
  · rw [if_pos pass]
    simp only [d] at passes pass
    simp only [passes.2 pass, if_true, third, short]
    cases v.reconFault <;> simp
  · rw [if_neg pass]
    simp only [d, tol] at passes pass gross ⊢
    simp only [mt passes.1 pass, if_false, gross]

/-- The first part of the statement: a second that does not count, one that fills no window, and a window judged. -/
theorem reconcile_window (v : Inventory) (cfg : Cfg) (w : Int) (ac ax : Nat) (seeded : v.seeded = true)
    (source : v.source = .wellhead) :
    let r := v.reconcile cfg (some w) ac ax
    let u := r.inv
    let d := (v.sumWellhead + w - (v.sumTrains + ac - ax)).natAbs
    let tol : Int := cfg.tAbs + (v.throughput + ac + ax) * cfg.tRel / 1000
    u.mass = v.mass ∧ u.heat = v.heat
    ∧ (v.windowSeconds + 1 < cfg.window →
        u = { v with
          sumWellhead := v.sumWellhead + w, sumTrains := v.sumTrains + ac - ax
          throughput := v.throughput + ac + ax, windowSeconds := v.windowSeconds + 1 }
        ∧ r.raised = false ∧ r.gross = false)
    ∧ (cfg.window ≤ v.windowSeconds + 1 → 0 ≤ v.throughput →
        u.sumWellhead = 0 ∧ u.sumTrains = 0 ∧ u.throughput = 0 ∧ u.windowSeconds = 0
        ∧ (if (d : Int) ≤ tol then
            u.passStreak = min 3 (v.passStreak + 1) ∧ r.gross = false
            ∧ u.reconFault = (v.reconFault && decide (v.passStreak + 1 < 3))
            ∧ r.raised = (v.reconFault && decide (3 ≤ v.passStreak + 1))
          else u.passStreak = 0 ∧ u.reconFault = true ∧ r.raised = !v.reconFault ∧ r.gross = decide (4 * tol < d))) := by
  intro r u d tol
  refine ⟨?_, ?_, fun filling => ?_, fun full positive => ?_⟩
  · obtain ⟨_, _, _, _, _, _, inv⟩ := v.reconcile_inv cfg (some w) ac ax
    simp only [u, r, inv]
  · obtain ⟨_, _, _, _, _, _, inv⟩ := v.reconcile_inv cfg (some w) ac ax
    simp only [u, r, inv]
  · have idle : r = _ := (v.reconcile_counts cfg w ac ax seeded source).trans (if_neg (by omega))
    simp only [u, idle, and_self]
  · have judged : r = _ := (v.reconcile_counts cfg w ac ax seeded source).trans (if_pos full)
    rw [Inventory.judgeWindow_eq _ _ (by simp only []; omega)] at judged
    simp only [u, judged]
    split
    · next pass => exact ⟨rfl, rfl, rfl, rfl, rfl, rfl, rfl, rfl⟩
    · next fail => exact ⟨rfl, rfl, rfl, rfl, rfl, rfl, rfl, rfl⟩

/-! ## The window that a second judges -/

/-- The fields that reconciliation reads and writes. -/
def Inventory.sameWindow (v w : Inventory) : Prop :=
  w.seeded = v.seeded ∧ w.source = v.source ∧ w.sumWellhead = v.sumWellhead ∧ w.sumTrains = v.sumTrains
    ∧ w.throughput = v.throughput ∧ w.windowSeconds = v.windowSeconds ∧ w.passStreak = v.passStreak
    ∧ w.reconFault = v.reconFault

/-- R14, R15: reconciliation goes by these fields alone. -/
theorem Inventory.reconcile_sameWindow {v w : Inventory} (h : v.sameWindow w) (cfg : Cfg) (wellhead : Option Int)
    (ac ax : Nat) :
    (v.reconcile cfg wellhead ac ax).inv.sameWindow (w.reconcile cfg wellhead ac ax).inv
    ∧ (w.reconcile cfg wellhead ac ax).raised = (v.reconcile cfg wellhead ac ax).raised
    ∧ (w.reconcile cfg wellhead ac ax).gross = (v.reconcile cfg wellhead ac ax).gross := by
  obtain ⟨seeded, source, sumWellhead, sumTrains, throughput, seconds, streak, fault⟩ := h
  unfold Inventory.reconcile Inventory.judgeWindow
  simp only [seeded, source, sumWellhead, sumTrains, throughput, seconds, streak, fault]
  split
  · split
    · split <;> simp_all [Inventory.sameWindow, Inventory.emptyWindow]
    · simp_all [Inventory.sameWindow]
  · simp_all [Inventory.sameWindow]

/-- R7, R8: what a second finds of the source, as the statement's two Booleans. -/
theorem Inventory.source_judged (v : Inventory) (cfg : Cfg) {lost back : Bool} (hl : lost = true ↔ v.lost)
    (hb : back = true ↔ v.back) :
    (v.judgeSource cfg).2.2 = (lost || back) ∧ (sourceJudged v lost back).sameWindow (v.accounted cfg) := by
  have stays (b : Bool) {p : Prop} (h : b = true ↔ p) (n : ¬ p) : b = false := Bool.eq_false_iff.2 (mt h.1 n)
  rcases v.source_cases with ⟨source, valid⟩ | h | ⟨source, valid, h⟩ | h | ⟨source, h⟩
  · rw [stays lost hl (by simp [Inventory.lost, valid]), stays back hb (by simp [Inventory.back, source])]
    simp [Inventory.accounted, Inventory.judgeSource_valid cfg source valid, sourceJudged, Inventory.sameWindow]
  · rw [hl.2 h, stays back hb (by simp [Inventory.back, h.1])]
    simp [Inventory.accounted, Inventory.judgeSource_lost cfg h, sourceJudged, Inventory.sameWindow,
      Inventory.emptyWindow]
  · rw [stays lost hl h, stays back hb (by simp [Inventory.back, source])]
    simp [Inventory.accounted, Inventory.judgeSource_invalid cfg source valid h, sourceJudged, Inventory.sameWindow]
  · rw [stays lost hl (by simp [Inventory.lost, h.1]), hb.2 h]
    simp [Inventory.accounted, Inventory.judgeSource_back cfg h, sourceJudged, Inventory.sameWindow,
      Inventory.emptyWindow]
  · rw [stays lost hl (by simp [Inventory.lost, source]), stays back hb h]
    simp [Inventory.accounted, Inventory.judgeSource_away cfg source h, sourceJudged, Inventory.sameWindow]

/-- R7, R8, R11, R14 to R16: what a second raises and asks for, and the window it leaves, by the reconciliation of the account
whose source has been judged. -/
theorem State.second_reconciled (s : State) {lost back : Bool} (hl : lost = true ↔ s.inv.lost)
    (hb : back = true ↔ s.inv.back) :
    let r := (sourceJudged s.inv lost back).reconcile s.store.cfg (wellheadMass s)
      (reportedSum s.inv (trainsOf .compress)) (reportedSum s.inv (trainsOf .expand))
    let x := s.inv.second s.store.cfg
    r.inv.sameWindow x.inv ∧ x.source = (lost || back) ∧ x.window = r.raised ∧ x.gross = r.gross
      ∧ x.limit = (s.inv.seeded && heatLimited s.store.cfg s.inv x.inv) := by
  intro r x
  obtain ⟨raises, same⟩ := s.inv.source_judged s.store.cfg hl hb
  obtain ⟨window, raised, gross⟩ := Inventory.reconcile_sameWindow same s.store.cfg (wellheadMass s)
    (reportedSum s.inv (trainsOf .compress)) (reportedSum s.inv (trainsOf .expand))
  have second : x = _ := s.inv.second_eq s.store.cfg
  obtain ⟨_, _, _, _, _, _, inv⟩ := s.inv.second_inv s.store.cfg
  have limit : x.limit = (s.inv.seeded && heatLimited s.store.cfg s.inv x.inv) := by
    simp only [x, inv]
    rw [Inventory.second_eq]
    rfl
  rw [s.judgeSource_mass, Inventory.reportedAll_eq_sum, Inventory.reportedAll_eq_sum] at second
  refine ⟨?_, ?_, ?_, ?_, limit⟩
  · rw [second]
    exact window
  · rw [second]
    exact raises
  · rw [second]
    exact raised
  · rw [second]
    exact gross

/-! ## What the hold and the causes leave of the flags -/

/-- R85: the withheld condition, as it is judged outside NORMAL, raises RESERVE_SHORT on GR alone. -/
theorem State.judgeWithheld_causes (s : State) (h : s.prot.mode ≠ .normal) :
    (s.judgeWithheld false).plant = if s.res.a ≠ 0 ∧ s.res.withheld = false then s.plant.raise .gr .reserveShort
      else s.plant := by
  have withholds : (s.withholds && (false || !s.res.withheld)) = true ↔ s.res.a ≠ 0 ∧ s.res.withheld = false := by
    simp [State.withholds, h]
  unfold State.judgeWithheld
  simp only [withholds]
  split <;> rfl

/-- R84: re-forming the targets leaves the activation and the withheld mark. -/
theorem State.reform_res (s : State) : s.reform.res.a = s.res.a ∧ s.reform.res.withheld = s.res.withheld := by
  unfold State.reform
  simp only []
  split <;> exact ⟨rfl, rfl⟩

/-- R156: a mode change but into NORMAL raises MODE on MK and GR, and RESERVE_SHORT on GR when an activation comes to be
withheld; a retarget may raise TABLE_FULL. -/
theorem State.handMode_mayBeFull (s : State) (h : s.prot.mode ≠ .normal) :
    ∃ q : Plant, (s.plant.raiseOn [.mk, .gr] .mode).mayBeFull q ∧ s.handMode.plant
      = if s.res.a ≠ 0 ∧ s.res.withheld = false then q.raise .gr .reserveShort else q := by
  let t := s.raiseOn [.mk, .gr] .mode
  let u : State := { t with res := { t.res with wait := 0 } }
  have mode : u.reform.prot.mode ≠ .normal := by simpa [u, t] using h
  refine ⟨u.reform.plant, u.reform_mayBeFull, ?_⟩
  have handed : s.handMode = u.reform.judgeWithheld false := if_neg (by simpa [u, t] using h)
  obtain ⟨activation, withheld⟩ := u.reform_res
  rw [handed, State.judgeWithheld_causes _ mode, activation, withheld]
  rfl

/-- R159: what entry into HOLD raises. -/
theorem State.enterHold_causes (s : State) :
    s.enterHold.causes .mk = raised (s.causes .mk) .mk [.mode]
    ∧ s.enterHold.causes .gr = raised (s.causes .gr) .gr
        (if s.res.a ≠ 0 ∧ s.res.withheld = false then [.mode, .reserveShort] else [.mode])
    ∧ ∀ p, isPlant p = true → (s.causes p).butHoldAndFull (s.enterHold.causes p) := by
  let t : State := { s with prot := { s.prot with mode := .hold, holdMask := s.store.cfg.holdBit } }
  let v := t.onPlant fun env p => p.holdTrains env.cfg s.store.cfg.holdBit
  let u := v.raiseOn [.pa, .pb] .hold
  have entered : s.enterHold = u.handMode := rfl
  obtain ⟨q, ⟨same, plant⟩, handed⟩ := u.handMode_mayBeFull (by simp [u, v, t])
  have trains : v.plant.causes = s.plant.causes := s.plant.causes_holdTrains _ _
  have moded (p : Port) : (u.plant.raiseOn [.mk, .gr] .mode).causes.get p
      = if isPlant p then (s.causes p).raise (causeMask p .hold) else (s.causes p).raise (causeMask p .mode) := by
    have causes : u.plant = v.plant.raiseOn [.pa, .pb] .hold := rfl
    rw [Plant.causes_raiseOn _ _ _ (by decide), causes, Plant.causes_raiseOn _ _ _ (by decide), trains]
    cases p <;> rfl
  have reserve : u.res = s.res := rfl
  have after (p : Port) : s.enterHold.causes p = if p = .gr ∧ s.res.a ≠ 0 ∧ s.res.withheld = false then
      (q.causes.get p).raise (causeMask p .reserveShort) else q.causes.get p := by
    rw [entered, State.causes, handed, reserve]
    by_cases short : s.res.a ≠ 0 ∧ s.res.withheld = false
    · rw [if_pos short, Plant.causes_raise]
      by_cases grid : p = .gr
      · subst grid
        simp [short]
      · simp [grid]
    · rw [if_neg short, if_neg (fun h => short h.2)]
  refine ⟨?_, ?_, fun p link => ?_⟩
  · rw [after, if_neg (by simp), same _ rfl, moded]
    rfl
  · rw [after, same _ rfl, moded]
    by_cases short : s.res.a ≠ 0 ∧ s.res.withheld = false
    · rw [if_pos ⟨rfl, short⟩, if_pos short]
      rfl
    · rw [if_neg (fun h => short h.2), if_neg short]
      rfl
  · have other : p ≠ .gr := by
      rintro rfl
      cases link
    rw [after, if_neg (fun h => other h.1)]
    refine .trans ?_ (plant p)
    rw [moded, if_pos link]
    refine ⟨rfl, fun n two _ => ?_⟩
    have bit : causeBit p .hold = some 2 := by cases p <;> simp_all [causeBit, isPlant]
    rw [Causes.raise_bit, causeMask_bit bit (by decide), decide_eq_false two, Bool.false_and, Bool.or_false]

/-! ## What a second raises -/

/-- R7, R11: the causes of a second, before the hold of a gross mismatch. -/
theorem State.secondRaised_open (s : State) (v : Inventory) (recon limit : Bool) :
    let u := s.secondRaised v recon limit false
    u.causes .mk = raised (s.causes .mk) .mk (if recon then [.recon] else []) ∧ u.causes .gr = s.causes .gr
    ∧ u.res = s.res ∧ ∀ x, x = .pa ∨ x = .pb → (u.causes x).enables = (s.causes x).enables
      ∧ (u.causes x).flags.getLsbD 5 = ((s.causes x).flags.getLsbD 5 || (recon && (s.causes x).enables.getLsbD 5))
      ∧ (u.causes x).flags.getLsbD 4 = ((s.causes x).flags.getLsbD 4 || (limit && (s.causes x).enables.getLsbD 4)) := by
  intro u
  have mask5 (x : Port) (plant : x = .pa ∨ x = .pb) (n : Nat) : (causeMask x .recon).getLsbD n = decide (n = 5) :=
    causeMask_bit (by rcases plant with rfl | rfl <;> rfl) (by decide) n
  have mask4 (x : Port) (plant : x = .pa ∨ x = .pb) (n : Nat) : (causeMask x .heatLimit).getLsbD n = decide (n = 4) :=
    causeMask_bit (by rcases plant with rfl | rfl <;> rfl) (by decide) n
  have raises (x : Port) : u.causes x =
      let y := if recon && x != .gr then (s.causes x).raise (causeMask x .recon) else s.causes x
      if limit && isPlant x then y.raise (causeMask x .heatLimit) else y := by
    simp only [u, State.secondRaised, State.causes]
    cases recon <;> cases limit <;> simp [Plant.causes_raiseOn] <;> cases x <;> simp [isPlant]
  refine ⟨?_, ?_, rfl, fun x plant => ?_⟩
  · rw [raises]
    cases recon <;> simp [isPlant, raised]
  · rw [raises]
    simp [isPlant]
  · have link : (x != .gr) = true ∧ isPlant x = true := by rcases plant with rfl | rfl <;> exact ⟨rfl, rfl⟩
    rw [raises]
    simp only [link, Bool.and_true]
    simp only [Causes.raiseIf_enables, Causes.raiseIf_bit, mask5 x plant, mask4 x plant, Nat.reduceEqDiff, decide_true,
      decide_false, Bool.true_and, Bool.false_and, Bool.and_false, Bool.or_false, and_self]

/-- R16: the causes of a second, with the hold of a gross mismatch. -/
theorem State.secondRaised_causes (s : State) (v : Inventory) (recon limit hold : Bool) :
    let w := s.secondRaised v recon limit hold
    w.causes .mk = raised (s.causes .mk) .mk ((if recon then [.recon] else []) ++ if hold then [.mode] else [])
    ∧ w.causes .gr = raised (s.causes .gr) .gr
        (if hold then (if s.res.a ≠ 0 ∧ s.res.withheld = false then [.mode, .reserveShort] else [.mode]) else [])
    ∧ ∀ x, x = .pa ∨ x = .pb → ((s.secondRaised v recon limit false).causes x).butHoldAndFull (w.causes x) := by
  obtain ⟨market, grid, res, _⟩ := s.secondRaised_open v recon limit
  cases hold with
  | false => exact ⟨by simpa using market, grid, fun x _ => .refl _⟩
  | true =>
    have held : s.secondRaised v recon limit true = (s.secondRaised v recon limit false).enterHold := rfl
    obtain ⟨mk, gr, plant⟩ := (s.secondRaised v recon limit false).enterHold_causes
    refine ⟨?_, ?_, fun x link => ?_⟩
    · rw [held, mk, market]
      simp [raised]
    · rw [held, gr, grid, res]
      rfl
    · exact held ▸ plant x (by rcases link with rfl | rfl <;> rfl)

/-- R11: the heat limit, store by store. -/
theorem heatLimited_iff (cfg : Cfg) (v w : Inventory) : heatLimited cfg v w = true ↔
    ∃ st, (w.heat.get st = 0 ∧ 0 < v.heat.get st)
      ∨ (w.heat.get st = cfg.capacity.get st ∧ v.heat.get st < cfg.capacity.get st) := by
  have all (st : Store) : st ∈ storeList := by cases st <;> decide
  simp [heatLimited, all]

/-- Settles O48: the window by its three cases, and the second by the account whose source has been judged, the causes it
raises, and the gates, which raise nothing but TABLE_FULL. -/
theorem reconciliationWindow : Obligations.ReconciliationWindow := by
  refine ⟨fun v cfg wellhead ac ax => ⟨v.reconcile_idle cfg ac ax, fun w seeded source e => ?_⟩, fun s hs => ?_⟩
  · subst e
    exact reconcile_window v cfg w ac ax seeded source
  intro v lost back r recon hold
  have hl : lost = true ↔ s.inv.lost := by simp [lost, v, Inventory.lost, and_assoc]
  have hb : back = true ↔ s.inv.back := by simp [back, v, Inventory.back, and_assoc]
  obtain ⟨⟨_, _, sumWellhead, sumTrains, throughput, seconds, streak, fault⟩, source, window, gross, limited⟩ :=
    s.second_reconciled hl hb
  let x := s.inv.second s.store.cfg
  let limit := s.inv.seeded && heatLimited s.store.cfg s.inv x.inv
  let w := s.secondRaised x.inv recon limit hold
  have shape : s.accountingSecond = { w with
      head := s.head.recompute s.store.cfg x.inv s.prot.isolated
      plant := w.plant.evaluateGates { w.env with heat := x.inv.heat } } := by
    rw [State.accountingSecond_eq, source, window, gross, limited]
  have inv : s.accountingSecond.finish.inv = x.inv := s.accountingSecond_keeps.1
  obtain ⟨same, plant⟩ := w.plant.evaluateGates_mayBeFull { w.env with heat := x.inv.heat }
  have gates (p : Port) : s.accountingSecond.finish.causes p
      = (w.plant.evaluateGates { w.env with heat := x.inv.heat }).causes.get p := by
    rw [State.causes, State.finish_causes, shape]
  obtain ⟨market, grid, held⟩ := s.secondRaised_causes x.inv recon limit hold
  obtain ⟨_, _, _, bits⟩ := s.secondRaised_open x.inv recon limit
  have happened : exec .accountingSecond s = .next s.accountingSecond.finish := congrArg _ (s.happen_running hs _)
  refine ⟨_, happened, ?_, ?_, ?_, ?_, ?_, fun p link => ?_⟩
  · rw [State.finish_mode, shape]
    exact s.secondRaised_mode _ _ _ _
  · rw [inv]
    exact ⟨streak, fault, sumWellhead, sumTrains, throughput, seconds⟩
  · rw [gates, same _ rfl]
    exact market
  · rw [gates, same _ rfl]
    exact grid
  · rw [inv]
    exact congrArg State.finish shape
  · obtain ⟨_, five, four⟩ := bits p link
    have kept := (held p link).trans (plant p)
    rw [inv, gates, kept.2 5 (by decide) (by decide), kept.2 4 (by decide) (by decide), five, four]
    refine ⟨rfl, ?_⟩
    rw [← heatLimited_iff s.store.cfg v x.inv]
    simp only [limit, v, Bool.or_eq_true, Bool.and_eq_true, and_assoc, and_comm]

end Sys2Proof.Machine
end

section
/-! PROOFS. The Projection Engine's headroom figures, effective values, slot steps and projections (R23 to R35, R38, R39). -/

namespace Sys2Proof.Machine

open Sys2Proof.Claims

/-! ## Sums, roundings and windows as the statements write them -/

/-- What counts for a store that is not ISOLATED is 0 for one that is. -/
theorem ite_not_isolated (isolated : Bool) (x : Nat) : (if !isolated then x else 0) = if isolated then 0 else x := by
  cases isolated <;> rfl

/-- R23, R28: an ISOLATED store does not count. -/
theorem sumStores_openStores (isolated : PerStore Bool) (f : Store → Nat) :
    sumStores (openStores isolated) f = (storeList.map fun st => if isolated.get st then 0 else f st).sum := by
  simp only [storeList, List.map_cons, List.map_nil, List.sum_cons, List.sum_nil, ← ite_not_isolated, ← Nat.add_assoc,
    Nat.add_zero]
  rfl

@[simp] theorem openStores_get (isolated : PerStore Bool) (st : Store) :
    (openStores isolated).get st = !isolated.get st := by
  cases st <;> rfl

/-- R29: the mass moved is the kilograms of the energy. -/
theorem massFor_eq {cfg : Cfg} (yd : 0 < cfg.yd) (cc : 0 < cfg.cc) (e : Int) : (massFor cfg e : Int) = kilograms cfg e := by
  unfold massFor kilograms
  split
  next h =>
    have grams : ((e.toNat * 1000 : Nat) : Int) = e * 1000 := by omega
    rw [divUp_eq _ _ yd, grams]
  next h =>
    have grams : -(((-e).toNat * 1000 : Nat) : Int) = e * 1000 := by omega
    rw [divUp_eq _ _ cc, grams]

@[simp] theorem kilograms_zero (cfg : Cfg) : kilograms cfg 0 = 0 := by simp [kilograms]

/-- R30: a quarter of a reserve's power, rounded up. -/
theorem divUp_quarter {r : Int} (h : 0 ≤ r) : (divUp r.toNat 4 : Int) = -(-r / 4) := by
  rw [divUp_eq _ _ (by decide), Int.toNat_of_nonneg h]
  rfl

/-- R53: a quantity is forbidden as soon as one of the windows that match forbids it. -/
theorem any_covering_windows (b : Book) (n : Nat) (what : Window → Bool) :
    (b.windows.toList.filter fun w => w.covers n).any what = forbidden b n what := List.any_filter

/-- R32: the windows block the values when they forbid a quantity that the values hold. -/
theorem Book.blackout_iff (b : Book) (n : Nat) (v : Vals) : b.blackout n v = true ↔
    (0 < v.e ∧ forbidden b n (·.noDischarge) = true) ∨ (v.e < 0 ∧ forbidden b n (·.noCharge) = true)
      ∨ (0 < v.up ∧ forbidden b n (·.noUp) = true) ∨ (0 < v.dn ∧ forbidden b n (·.noDown) = true) := by
  simp only [Book.blackout, forbidden, Window.blocks, Window.forbids, List.any_eq_true, Bool.and_eq_true, Bool.or_eq_true,
    decide_eq_true_eq, and_or_left, exists_or, or_assoc, ← and_assoc, exists_and_right]
  exact or_congr and_comm (or_congr and_comm (or_congr and_comm and_comm))

/-! ## Headroom -/

/-- R23 to R25: the headroom figures, with the heat limit left out without a heat factor. -/
theorem Headroom.recompute_figures (h : Headroom) (cfg : Cfg) (v : Inventory) (isolated : PerStore Bool) :
    let draw := storeList.map fun st => if isolated.get st then 0 else v.heat.get st - cfg.floor.get st
    let room := storeList.map fun st => if isolated.get st then 0 else cfg.ceil.get st - v.heat.get st
    let airD := (v.mass - cfg.mFloor) * cfg.yd / 1000
    let airC := (cfg.mCeil - v.mass) * cfg.cc / 1000
    let g := h.recompute cfg v isolated
    g.eAirD = airD ∧ g.eAirC = airC
    ∧ g.dRaw = (if cfg.hd = 0 then airD else min airD (draw.sum / cfg.hd * cfg.yd / 1000))
    ∧ g.cRaw = (if cfg.hc = 0 then airC else min airC (room.sum / cfg.hc * cfg.cc / 1000)) := by
  simp only [Headroom.recompute, sumStores_openStores, true_and]
  constructor
  · by_cases unlimited : cfg.hd = 0 <;> simp [unlimited]
  · by_cases unlimited : cfg.hc = 0 <;> simp [unlimited]

/-- R25: the headroom is the raw figure, derated and saturated, and 0 while UNSEEDED. -/
theorem Headroom.recompute_derated (h : Headroom) (cfg : Cfg) (v : Inventory) (isolated : PerStore Bool) :
    let derated := fun x => if v.reconFault then x * (100 - cfg.derate) / 100 else x
    let g := h.recompute cfg v isolated
    g.d = (if v.seeded then min (derated g.dRaw) 16777215 else 0)
    ∧ g.c = (if v.seeded then min (derated g.cRaw) 16777215 else 0) := ⟨rfl, rfl⟩

/-! ## Effective values -/

/-- R38: the effective values, with the matching windows as the statement asks for them. -/
theorem State.effective_eq (s : State) (n : Nat) (v : Vals) :
    let f := s.effective n v
    let e := min (max v.e (-(s.head.c : Int))) s.head.d
    (f.e = if (0 < e ∧ forbidden s.book n (·.noDischarge) = true) ∨ (e < 0 ∧ forbidden s.book n (·.noCharge) = true)
        then 0 else e)
    ∧ (f.up = if forbidden s.book n (·.noUp) then 0
        else max 0 (min v.up (min (4 * (s.head.d - max 0 f.e)) (s.head.pxCap - max 0 (4 * f.e)))))
    ∧ (f.dn = if forbidden s.book n (·.noDown) then 0
        else max 0 (min v.dn (min (4 * (s.head.c - max 0 (-f.e))) (s.head.pcCap - max 0 (-4 * f.e))))) := by
  simp only [State.effective, any_covering_windows, Bool.or_eq_true, Bool.and_eq_true, decide_eq_true_eq, and_comm, and_true]

/-- R39: the effective energy is 0 or a part of the committed one. -/
theorem State.effective_e_within (s : State) (n : Nat) (v : Vals) :
    (s.effective n v).e = 0 ∨ (0 < (s.effective n v).e ∧ (s.effective n v).e ≤ v.e)
      ∨ ((s.effective n v).e < 0 ∧ v.e ≤ (s.effective n v).e) := by
  obtain ⟨he, -, -⟩ := s.effective_eq n v
  split at he <;> omega

/-- R39: a reserve cut to what is left of it, or to 0 where a window forbids it, is no larger than it was. -/
theorem cutReserve_within {r : Int} (h : 0 ≤ r) (left : Int) (forbids : Bool) :
    0 ≤ (if forbids then 0 else max 0 (min r left)) ∧ (if forbids then 0 else max 0 (min r left)) ≤ r := by
  cases forbids
  · rw [if_neg Bool.false_ne_true]
    omega
  · exact ⟨Int.le_refl 0, h⟩

/-- R39: the effective reserves lie between 0 and the committed ones. -/
theorem State.effective_reserves_within (s : State) (n : Nat) {v : Vals} (up : 0 ≤ v.up) (dn : 0 ≤ v.dn) :
    (0 ≤ (s.effective n v).up ∧ (s.effective n v).up ≤ v.up) ∧ 0 ≤ (s.effective n v).dn ∧ (s.effective n v).dn ≤ v.dn := by
  obtain ⟨-, hup, hdn⟩ := s.effective_eq n v
  rw [hup, hdn]
  exact ⟨cutReserve_within up _ _, cutReserve_within dn _ _⟩

/-! ## The slot step -/

/-- Table 2-4's order. -/
def reasonList : List Reason := [.floor, .heatEmpty, .ceiling, .heatFull, .powerUp, .powerDown, .blackout]

/-- No reason is found when none holds: the list leaves none out. -/
theorem find?_reasonList_eq_none {p : Reason → Bool} : reasonList.find? p = none ↔ ∀ r, ¬ p r = true := by
  have all (r : Reason) : r ∈ reasonList := by cases r <;> decide
  simp [List.find?_eq_none, all]

/-- The reason found is the first in the table's order. -/
theorem find?_reasonList_eq_some {p : Reason → Bool} {r : Reason} :
    reasonList.find? p = some r ↔ p r = true ∧ ∀ q, q.code < r.code → ¬ p q = true := by
  have place (q : Reason) : ∃ h : q.code.toNat < reasonList.length, reasonList[q.code.toNat] = q := by
    cases q <;> exact ⟨by decide, rfl⟩
  have code : ∀ i (h : i < reasonList.length), reasonList[i].code = i := by decide
  rw [List.find?_eq_some_iff_getElem]
  refine and_congr_right fun _ => ⟨?_, fun first => ?_⟩
  · rintro ⟨i, hi, rfl, before⟩ q less
    obtain ⟨hq, at_q⟩ := place q
    rw [code i hi] at less
    have nonneg : 0 ≤ q.code := by cases q <;> decide
    simpa [at_q] using before q.code.toNat (by omega)
  · obtain ⟨hr, at_r⟩ := place r
    refine ⟨_, hr, at_r, fun j less => ?_⟩
    have earlier : reasonList[j].code < r.code := by rw [code]; omega
    simpa using first _ earlier

/-- R30 to R32: whether a slot step fails for a reason. -/
def stepFails (cfg : Cfg) (h : Headroom) (b : Book) (c : Carried) (n : Nat) (v : Vals) (power : Int) : Reason → Bool :=
  let hi := extremeFails cfg c (v.e + divUp v.up.toNat 4)
  let lo := extremeFails cfg c (v.e - divUp v.dn.toNat 4)
  fun
  | .floor => hi.1 || lo.1
  | .heatEmpty => hi.2.1 || lo.2.1
  | .ceiling => hi.2.2.1 || lo.2.2.1
  | .heatFull => hi.2.2.2 || lo.2.2.2
  | .powerUp => decide ((h.pxCap : Int) < max 0 (power + v.up))
  | .powerDown => decide ((h.pcCap : Int) < max 0 (v.dn - power))
  | .blackout => b.blackout n v

/-- R33: a slot step reports the first reason in the table's order for which it fails. -/
theorem stepReason_eq (cfg : Cfg) (h : Headroom) (b : Book) (c : Carried) (n : Nat) (v : Vals) (power : Int) :
    stepReason cfg h b c n v power = reasonList.find? (stepFails cfg h b c n v power) := by
  have first (p : Reason → Bool) (r : Reason) (l : List Reason) :
      (r :: l).find? p = if p r then some r else l.find? p := by
    rw [List.find?_cons]
    cases p r <;> rfl
  simp only [stepReason, reasonList, first, List.find?_nil, stepFails, decide_eq_true_eq]

/-- R30: the failures of an extreme, each by its own condition. -/
theorem extremeFails_eq {cfg : Cfg} (yd : 0 < cfg.yd) (cc : 0 < cfg.cc) (c : Carried) (x : Int) : extremeFails cfg c x =
    (decide (0 < x ∧ c.mass - kilograms cfg x < cfg.mFloor),
      decide (0 < x ∧ 0 < cfg.hd ∧ c.heat - kilograms cfg x * cfg.hd < c.fTot),
      decide (x < 0 ∧ (cfg.mCeil : Int) < c.mass + kilograms cfg x),
      decide (x < 0 ∧ 0 < cfg.hc ∧ (c.kTot : Int) < c.heat + kilograms cfg x * cfg.hc)) := by
  rcases Int.lt_trichotomy x 0 with charge | rfl | discharge
  · simp [extremeFails, massFor_eq yd cc, charge, Int.not_lt.2 (Int.le_of_lt charge)]
  · simp [extremeFails]
  · simp [extremeFails, massFor_eq yd cc, discharge, Int.not_lt.2 (Int.le_of_lt discharge)]

/-- R30 to R32, Table 2-4: a slot step fails for exactly the reasons whose condition breaks. -/
theorem stepFails_iff {s : State} (yd : 0 < s.store.cfg.yd) (cc : 0 < s.store.cfg.cc) (c : Carried) (n : Nat) {v : Vals}
    (up : 0 ≤ v.up) (dn : 0 ≤ v.dn) (power : Int) (r : Reason) :
    stepFails s.store.cfg s.head s.book c n v power r = true ↔ breaks s c n v power r := by
  cases r
  case powerUp | powerDown => simp [stepFails, breaks]
  case blackout => exact s.book.blackout_iff n v
  all_goals
    simp only [stepFails, breaks, extremeFails_eq yd cc, divUp_quarter up, divUp_quarter dn, Bool.or_eq_true,
      decide_eq_true_eq, or_and_right, exists_or, exists_eq_left]

/-- R34: the state carried on, with the heat moved by the same mass. -/
theorem Carried.after_eq {cfg : Cfg} (yd : 0 < cfg.yd) (cc : 0 < cfg.cc) (c : Carried) (e : Int) :
    let m := kilograms cfg e
    let heat := if 0 < e then c.heat - m * cfg.hd else c.heat + m * cfg.hc
    let kept := if 0 < heat then heat - heat * c.loss / 1000000 else heat
    c.after cfg e = { c with
      mass := min (max (if 0 < e then c.mass - m else c.mass + m) cfg.mFloor) cfg.mCeil
      heat := min (max kept c.fTot) c.kTot } := by
  intro m heat kept
  have mass_moved : (if 0 < e then c.mass - m else if e < 0 then c.mass + m else c.mass)
      = if 0 < e then c.mass - m else c.mass + m := by
    rcases Int.lt_trichotomy e 0 with h | rfl | h <;> simp [*, m]
  have heat_moved : (if 0 < e then c.heat - m * cfg.hd else if e < 0 then c.heat + m * cfg.hc else c.heat) = heat := by
    rcases Int.lt_trichotomy e 0 with h | rfl | h <;> simp [*, m, heat]
  have lost : heat - (if 0 < heat then heat * c.loss / 1000000 else 0) = kept := by
    simp only [kept]
    split <;> simp
  simp only [Carried.after, massFor_eq yd cc, clampTo]
  rw [mass_moved, heat_moved, lost]

/-! ## Projections -/

/-- R28: a store's loss rate as the pool takes it in. -/
def State.pooledLoss (s : State) (st : Store) : Nat := if s.prot.isolated.get st then 0 else s.store.cfg.lossPpm.get st

/-- R28: a projection's loss rate is the largest that the pool takes in. -/
theorem State.startCarried_loss (s : State) :
    s.startCarried.loss = max (s.pooledLoss .s0) (max (s.pooledLoss .s1) (s.pooledLoss .s2)) := by
  simp only [State.startCarried, State.pooledLoss, openStores_get, ite_not_isolated]

/-- R28: no store of the pool loses more. -/
theorem State.lossPpm_le_startCarried_loss (s : State) {st : Store} (h : s.prot.isolated.get st = false) :
    s.store.cfg.lossPpm.get st ≤ s.startCarried.loss := by
  have pooled : s.pooledLoss st = s.store.cfg.lossPpm.get st := by simp [State.pooledLoss, h]
  rw [← pooled, s.startCarried_loss]
  cases st <;> omega

/-- R28: the pool loses what one of its stores loses, or it is empty or loses nothing. -/
theorem State.startCarried_loss_mem (s : State) :
    s.startCarried.loss = 0 ∨ ∃ st, s.prot.isolated.get st = false ∧ s.store.cfg.lossPpm.get st = s.startCarried.loss := by
  obtain ⟨st, largest⟩ : ∃ st, s.pooledLoss st = s.startCarried.loss := by
    rw [s.startCarried_loss]
    have one_of : ∀ a b c : Nat, a = max a (max b c) ∨ b = max a (max b c) ∨ c = max a (max b c) := by omega
    rcases one_of (s.pooledLoss .s0) (s.pooledLoss .s1) (s.pooledLoss .s2) with largest | largest | largest
    · exact ⟨.s0, largest⟩
    · exact ⟨.s1, largest⟩
    · exact ⟨.s2, largest⟩
  unfold State.pooledLoss at largest
  cases open_st : s.prot.isolated.get st
  · exact .inr ⟨st, open_st, by simpa [open_st] using largest⟩
  · exact .inl (by simpa [open_st] using largest.symm)

/-- R35: what remains of an energy, rounded away from zero. -/
theorem remaining_eq (e : Int) {second : Nat} (h : second ≤ 899) :
    let left : Int := e * (900 - second)
    remaining e second = if 0 ≤ left then -(-left / 900) else left / 900 := by
  intro left
  have positive : (0 : Int) < 900 - second := by omega
  have sign : 0 ≤ left ↔ 0 ≤ e := Int.mul_nonneg_iff_of_pos_right positive
  unfold remaining
  simp only [sign]
  split
  next nonneg =>
    have whole : ((e.toNat * (900 - second) : Nat) : Int) = left := by
      rw [Int.natCast_mul, Int.toNat_of_nonneg nonneg, Int.ofNat_sub (by omega)]
      rfl
    rw [divUp_eq _ _ (by decide), whole]
    rfl
  next negative =>
    have whole : -(((-e).toNat * (900 - second) : Nat) : Int) = left := by
      rw [Int.natCast_mul, Int.toNat_of_nonneg (by omega), Int.ofNat_sub (by omega), Int.neg_mul, Int.neg_neg]
      rfl
    rw [divUp_eq _ _ (by decide), whole, Int.neg_neg]
    rfl

/-- A run of slot steps has a result for each. -/
theorem projectFrom_length (cfg : Cfg) (h : Headroom) (b : Book) (vals : Nat → Vals) (count n : Nat) (c : Carried) :
    (projectFrom cfg h b vals count n c).length = count := by
  induction count generalizing n c with
  | zero => rfl
  | succ k ih => simp [projectFrom, ih]

/-- R35: a projection takes 192 steps. -/
theorem State.project_length (s : State) (vals : Nat → Vals) : (s.project vals).length = 192 := by
  simp [State.project, projectFrom_length]

/-- R35: the steps from the `i`-th slot on, each from the state that the one before has carried on. -/
theorem State.projectFrom_getElem? (s : State) (vals : Nat → Vals) (count i k : Nat) (h : k < count) :
    (projectFrom s.store.cfg s.head s.book vals count (s.tb.current + (i + 1)) (carriedAt s vals (i + 1)))[k]?
      = some (s.tb.current + (i + 1 + k), stepReason s.store.cfg s.head s.book (carriedAt s vals (i + 1 + k))
          (s.tb.current + (i + 1 + k)) (slotVals s vals (i + 1 + k)) (4 * (slotVals s vals (i + 1 + k)).e)) := by
  induction count generalizing i k with
  | zero => omega
  | succ count ih =>
    cases k with
    | zero => rfl
    | succ k =>
      have next := ih (i + 1) k (by omega)
      rw [show i + 1 + 1 + k = i + 1 + (k + 1) by omega] at next
      exact next

/-- R35: the `k`-th step of a projection. -/
theorem State.project_getElem? (s : State) (vals : Nat → Vals) {k : Nat} (h : k < 192) :
    (s.project vals)[k]? = some (s.tb.current + k, stepReason s.store.cfg s.head s.book (carriedAt s vals k)
      (s.tb.current + k) (slotVals s vals k) (if k = 0 then 4 * s.active.e else 4 * (slotVals s vals k).e)) := by
  cases k with
  | zero => rfl
  | succ k =>
    have later := s.projectFrom_getElem? vals 191 0 k (by omega)
    rw [show 0 + 1 + k = k + 1 by omega] at later
    exact later

/-- Settles O31: the effective values, the headroom figures, the slot step as the first condition that breaks, and the
projection by induction on its steps. -/
theorem headroomEffectiveValuesAndSlotSteps : Obligations.HeadroomEffectiveValuesAndSlotSteps := by
  refine ⟨fun s n v up dn => ?_, fun s => ?_, fun s c n v power yd cc up dn => ?_, fun s vals second => ?_⟩
  · obtain ⟨e, hup, hdn⟩ := s.effective_eq n v
    obtain ⟨⟨up_nonneg, up_le⟩, dn_within⟩ := s.effective_reserves_within n up dn
    exact ⟨e, hup, hdn, s.effective_e_within n v, up_nonneg, up_le, dn_within.1, dn_within.2, rfl, rfl, rfl⟩
  · obtain ⟨airD, airC, rawD, rawC⟩ := s.head.recompute_figures s.store.cfg s.inv s.prot.isolated
    obtain ⟨d, c⟩ := s.head.recompute_derated s.store.cfg s.inv s.prot.isolated
    rw [rawD] at d
    rw [rawC] at c
    exact ⟨airD, airC, rawD, rawC, d, c, rfl, rfl⟩
  · have fails := stepFails_iff yd cc c n up dn power
    simp only [stepReason_eq, find?_reasonList_eq_none, find?_reasonList_eq_some, fails, implies_true, true_and]
    exact c.after_eq yd cc v.e
  · have pooled := sumStores_openStores s.prot.isolated
    exact ⟨rfl, congrArg Nat.cast (pooled _), pooled _, pooled _, openStores_get _,
      fun _ => s.lossPpm_le_startCarried_loss, s.startCarried_loss_mem, congrArg (Vals.mk · _ _) (remaining_eq _ second),
      s.project_length vals, fun _ => s.project_getElem? vals⟩

end Sys2Proof.Machine
end

section
/-! PROOFS. The acceptance rule (R36, R37): the offences of the paired projections, slot by slot. -/

namespace Sys2Proof.Machine

open Sys2Proof.Claims

/-- R36: the model's test of a reduced slot; what only shrinks towards zero keeps its sign. -/
theorem reduced_iff (old new : Vals) : reduced old new = true ↔ hasReduced old new := by
  simp only [reduced, hasReduced, Bool.and_eq_true, Bool.or_eq_true, beq_iff_eq, decide_eq_true_eq]
  omega

/-- R36: the earliest changed slot is no later than an interval when some changed slot is. -/
theorem foldl_min_le_iff (changes : List (Nat × Vals)) (first n : Nat) :
    changes.foldl (fun m x => min m x.1) first ≤ n ↔ first ≤ n ∨ ∃ x ∈ changes, x.1 ≤ n := by
  induction changes generalizing first with
  | nil => simp
  | cons x xs ih =>
    have here : min first x.1 ≤ n ↔ first ≤ n ∨ x.1 ≤ n := by omega
    rw [List.foldl_cons, ih, here, or_assoc]
    simp only [List.mem_cons, exists_eq_or_imp]

/-- R36, R37: a slot, with its reasons without and with the changes, offends from the earliest changed one on when it newly
fails, or when it is changed and still fails without having been reduced. -/
theorem offends_eq_some (b : Book) (changes : List (Nat × Vals)) (first n m : Nat) (without within : Option Reason)
    (r : Reason) : offends b changes first ((n, without), (n, within)) = some (m, r) ↔ m = n ∧ first ≤ n ∧ within = some r
      ∧ (without = none ∨ ((∃ x ∈ changes, x.1 = n) ∧ ¬ hasReduced (b.vals n) (withChanges b changes n))) := by
  cases within with
  | none => simp [offends]
  | some q =>
    simp only [offends, Option.ite_none_right_eq_some, Bool.and_eq_true, Bool.or_eq_true, Bool.not_eq_true',
      decide_eq_true_eq, Option.isNone_iff_eq_none, List.any_eq_true, beq_iff_eq, ← Bool.not_eq_true, reduced_iff,
      Option.some.injEq, Prod.mk.injEq]
    constructor
    · rintro ⟨⟨from_first, offence⟩, rfl, rfl⟩
      exact ⟨rfl, from_first, rfl, offence⟩
    · rintro ⟨rfl, from_first, rfl, offence⟩
      exact ⟨⟨from_first, offence⟩, rfl, rfl⟩

/-- What a search finds stands at an index, with nothing found before it. -/
theorem getElem?_of_findSome?_eq_some {α β : Type} {f : α → Option β} {l : List α} {b : β} (h : l.findSome? f = some b) :
    ∃ (k : Nat) (a : α), l[k]? = some a ∧ f a = some b ∧ ∀ j < k, ∀ x, l[j]? = some x → f x = none := by
  obtain ⟨before, a, after, rfl, found, none_before⟩ := List.findSome?_eq_some_iff.1 h
  refine ⟨before.length, a, by simp, found, fun j hj x hx => none_before x ?_⟩
  rw [List.getElem?_append_left hj] at hx
  exact List.mem_of_getElem? hx

/-- The projections without and with the changes, side by side. -/
def State.pairedProjections (s : State) (changes : List (Nat × Vals)) : List ((Nat × Option Reason) × (Nat × Option Reason)) :=
  (s.project s.book.vals).zip (s.project (withChanges s.book changes))

theorem State.pairedProjections_length (s : State) (changes : List (Nat × Vals)) :
    (s.pairedProjections changes).length = 192 := by
  simp [State.pairedProjections, State.project_length]

/-- R36: the judgement of a change that names a slot is the search of the paired projections. -/
theorem State.judge_cons (s : State) (c : Nat × Vals) (cs : List (Nat × Vals)) : s.judge (c :: cs) =
    (s.pairedProjections (c :: cs)).findSome? (offends s.book (c :: cs) (cs.foldl (fun m y => min m y.1) c.1)) := rfl

/-- R36, R37: the search for the first offending slot finds what the statement calls an offence, slot by slot. -/
theorem State.offends_iff_offendsAt (s : State) (c : Nat × Vals) (cs : List (Nat × Vals)) {k : Nat}
    {x : (Nat × Option Reason) × (Nat × Option Reason)} (h : (s.pairedProjections (c :: cs))[k]? = some x) (n : Nat)
    (r : Reason) :
    offends s.book (c :: cs) (cs.foldl (fun m y => min m y.1) c.1) x = some (n, r)
      ↔ n = s.tb.current + k ∧ offendsAt s (c :: cs) k r := by
  have hk : k < 192 := by
    obtain ⟨hk, -⟩ := List.getElem?_eq_some_iff.1 h
    rwa [s.pairedProjections_length] at hk
  rw [State.pairedProjections, List.getElem?_zip_eq_some, s.project_getElem? _ hk, s.project_getElem? _ hk] at h
  obtain ⟨without, within⟩ := x
  obtain ⟨rfl, rfl⟩ : _ = without ∧ _ = within := by simpa using h
  rw [offends_eq_some, foldl_min_le_iff]
  simp only [offendsAt, s.project_getElem? _ hk, List.mem_cons, exists_eq_or_imp, Option.some.injEq, Prod.mk.injEq, true_and]

/-- R35: an offence lies within the projection. -/
theorem State.offendsAt_lt {s : State} {changes : List (Nat × Vals)} {k : Nat} {r : Reason} (h : offendsAt s changes k r) :
    k < 192 := by
  obtain ⟨-, within, -⟩ := h
  obtain ⟨hk, -⟩ := List.getElem?_eq_some_iff.1 within
  rwa [s.project_length] at hk

/-- An offence stands in the search's list. -/
theorem State.offendsAt_found {s : State} {c : Nat × Vals} {cs : List (Nat × Vals)} {k : Nat} {r : Reason}
    (h : offendsAt s (c :: cs) k r) : ∃ x, (s.pairedProjections (c :: cs))[k]? = some x
      ∧ offends s.book (c :: cs) (cs.foldl (fun m y => min m y.1) c.1) x = some (s.tb.current + k, r) := by
  have hk : k < (s.pairedProjections (c :: cs)).length := by
    rw [s.pairedProjections_length]
    exact State.offendsAt_lt h
  have at_k := List.getElem?_eq_getElem hk
  exact ⟨_, at_k, (s.offends_iff_offendsAt c cs at_k _ r).2 ⟨rfl, h⟩⟩

/-- R36: a change is accepted when no slot offends. -/
theorem State.judge_eq_none_iff (s : State) (changes : List (Nat × Vals)) :
    s.judge changes = none ↔ ∀ k r, ¬ offendsAt s changes k r := by
  cases changes with
  | nil => simp [State.judge, offendsAt]
  | cons c cs =>
    rw [State.judge_cons, List.findSome?_eq_none_iff]
    constructor
    · intro accepted k r offence
      obtain ⟨x, at_k, found⟩ := State.offendsAt_found offence
      have unfound := accepted x (List.mem_of_getElem? at_k)
      cases unfound.symm.trans found
    · intro none_offends x hx
      obtain ⟨k, at_k⟩ := List.mem_iff_getElem?.1 hx
      refine Option.eq_none_iff_forall_ne_some.2 fun (n, r) found => ?_
      exact none_offends k r ((s.offends_iff_offendsAt c cs at_k n r).1 found).2

/-- R37: a refusal names the first slot that offends, and its reason. -/
theorem State.judge_eq_some {s : State} {changes : List (Nat × Vals)} {n : Nat} {r : Reason}
    (h : s.judge changes = some (n, r)) : ∃ k, n = s.tb.current + k ∧ offendsAt s changes k r
      ∧ ∀ j, j < k → ∀ q, ¬ offendsAt s changes j q := by
  cases changes with
  | nil => cases h
  | cons c cs =>
    rw [State.judge_cons] at h
    obtain ⟨k, x, at_k, found, none_before⟩ := getElem?_of_findSome?_eq_some h
    obtain ⟨rfl, offence⟩ := (s.offends_iff_offendsAt c cs at_k n r).1 found
    refine ⟨k, rfl, offence, fun j less q earlier => ?_⟩
    obtain ⟨y, at_j, found_j⟩ := State.offendsAt_found earlier
    cases (none_before j less y at_j).symm.trans found_j

/-- Settles O32: the model searches the paired projections for the first offence. -/
theorem acceptanceRule : Obligations.AcceptanceRule := by
  intro s changes
  refine ⟨s.judge_eq_none_iff changes, fun n r refused => ?_⟩
  obtain ⟨k, at_k, offence, first⟩ := State.judge_eq_some refused
  exact ⟨k, State.offendsAt_lt offence, at_k, offence, first⟩

end Sys2Proof.Machine
end

section
/-! PROOFS. The Sweep's part of a second and SWEEP_RESTART (R67 to R71, R73). -/

namespace Sys2Proof.Machine

/-! ## Slots: a read after a write -/

theorem Book.slot_setSlot (b : Book) (n m : Nat) (x : Slot) :
    (b.setSlot n x).slot m = if m % 192 = n % 192 then x else b.slot m := by
  simp only [Book.slot, Book.setSlot, Vector.getElem_set, eq_comm]

theorem Book.setSlot_slot (b : Book) (n : Nat) : b.setSlot n (b.slot n) = b := by
  simp [Book.setSlot, Book.slot]

theorem Slot.holds_iff (x : Slot) (n : Nat) : x.holds n = true ↔ x.state ≠ .free ∧ x.tag = n := by
  simp [Slot.holds]

/-! ## The step of the Sweep -/

/-- R69: the result enters the slot that holds the interval, and a clear flag that it sets raises NEW_AT_RISK. -/
theorem State.markRisk_eq (s : State) (n : Nat) (r : Option Reason) :
    let x := s.book.slot n
    let holds := x.state ≠ .free ∧ x.tag = n
    s.markRisk n r = { s with
      book := s.book.setSlot n (if holds then { x with risk := r } else x)
      plant := if holds ∧ r.isSome = true ∧ x.risk = none then s.plant.raise .mk .newAtRisk else s.plant } := by
  intro x holds
  have news : (r.isSome && x.risk.isNone) = true ↔ r.isSome = true ∧ x.risk = none := by simp
  unfold State.markRisk
  simp only []
  by_cases h : holds
  · rw [if_pos ((x.holds_iff n).2 h), if_pos h]
    by_cases flag : r.isSome = true ∧ x.risk = none
    · rw [if_pos (news.2 flag), if_pos ⟨h, flag⟩]
      rfl
    · rw [if_neg (mt news.1 flag), if_neg fun both => flag both.2]
      rfl
  · rw [if_neg (mt (x.holds_iff n).1 h), if_neg h, if_neg fun both => h both.1, Book.setSlot_slot]

/-- R68: the reason that the step at the pointer finds. -/
def State.sweepReason (s : State) : Option Reason :=
  stepReason s.store.cfg s.head s.book s.sweepCarried (s.sweep.base + s.sweep.pointer) s.sweepVals.1 s.sweepVals.2

/-- R70: where a step leaves the Sweep: at the next pointer, or at the start of the next cycle. -/
theorem State.sweepStep_sweep (s : State) : s.sweepStep.sweep =
    if s.sweep.pointer < 191 then
      { s.sweep with pointer := s.sweep.pointer + 1, carried := some (s.sweepCarried.after s.store.cfg s.sweepVals.1.e) }
    else { s.sweep with
      base := s.tb.current, pointer := 0, carried := none, cycles := (s.sweep.cycles + 1) % 65536 } := by
  unfold State.sweepStep
  simp only []
  split
  · simp
  · simp [Sweep.start]

/-- R68 to R70: a step marks its result and moves the Sweep on. -/
theorem State.sweepStep_eq (s : State) :
    s.sweepStep = { s.markRisk (s.sweep.base + s.sweep.pointer) s.sweepReason with sweep := s.sweepStep.sweep } := by
  unfold State.sweepStep
  simp only []
  split <;> rfl

theorem State.sweepSecond_idle {s : State} (h : s.sweep.running = false) : s.sweepSecond = s := by
  simp [State.sweepSecond, h]

theorem State.sweepSecond_starts {s : State} (h : s.sweep.running = true) (base : s.sweep.base ≠ s.tb.current) :
    s.sweepSecond = s.sweepStart := by
  simp [State.sweepSecond, h, base]

theorem State.sweepSecond_steps {s : State} (h : s.sweep.running = true) (base : s.sweep.base = s.tb.current) :
    s.sweepSecond = s.sweepStep := by
  simp [State.sweepSecond, h, base]

/-! ## SWEEP_RESTART -/

/-- R73: the two refusals in order, and the restart. -/
theorem sweepRestartBody_eq (p : Port) (vs : List Int) (s : State) : sweepRestartBody p vs s =
    if s.tb.synced = false then refuse .notSynced s
    else if s.inv.seeded = false then refuse .notSeeded s
    else taken s.sweepStart .ok fun t => [(.u2, (t.sweep.cycles : Int))] := by
  simp only [sweepRestartBody, Bool.not_eq_true']

/-- An answer's fields are those of the state in which the step ends. -/
theorem State.reply_taken_congr (code : Byte) (f : Frame) (s : State) (st : Status) {l k : State → Fields}
    (h : l s.finish = k s.finish) : State.reply code f (taken s st l) = State.reply code f (taken s st k) := by
  simp [State.reply, taken, State.formAnswer, h]

/-- Settles O45: the restart is its row's body, and the Sweep's second is one of idling, starting and stepping. -/
theorem sweepCommandsAndSteps : Obligations.SweepCommandsAndSteps := by
  constructor
  · intro f s accepted port payload u
    have served : exec (.sweepRestart f) s = .next (State.reply 41#8 f (sweepRestartBody f.port [] u)) :=
      congrArg _ (State.request_taken (r := rowSweepRestart) accepted (by rw [port]; rfl)
        ((readFields_nil _ _).2 ⟨payload, rfl⟩))
    have synced : u.tb.synced = s.tb.synced := congrArg _ (s.received_tb f.port)
    have seeded : u.inv.seeded = s.inv.seeded := congrArg _ (s.received_inv f.port)
    have current : u.sweepStart
        = { u with sweep := { u.sweep with base := s.tb.current, pointer := 0, carried := none } } := by
      simp [State.sweepStart, Sweep.start, u]
    rw [served, sweepRestartBody_eq, synced, seeded]
    refine congrArg _ ?_
    split
    · rfl
    · split
      · rfl
      · rw [current]
        exact State.reply_taken_congr _ _ _ _ (by simp [u])
  · intro s t n c v power r x holds
    refine ⟨State.sweepSecond_idle, State.sweepSecond_starts, fun running base => ?_⟩
    have stepsOn : s.sweepVals = (v, power) := by
      by_cases h : s.sweep.pointer = 0 <;> simp only [State.sweepVals, v, power, n, h, if_true, if_false]
    have found : s.sweepReason = r := by rw [State.sweepReason, stepsOn]; rfl
    have stepped : t = { s.markRisk n r with sweep := s.sweepStep.sweep } :=
      (State.sweepSecond_steps running base).trans (found ▸ s.sweepStep_eq)
    rw [stepped, s.markRisk_eq n r]
    refine ⟨?_, fun m other => ?_, rfl, ?_, rfl⟩
    · exact (s.book.slot_setSlot n n _).trans (if_pos rfl)
    · exact (s.book.slot_setSlot n m _).trans (if_neg other)
    · exact s.sweepStep_sweep.trans (by rw [stepsOn]; rfl)

end Sys2Proof.Machine
end

section
/-! PROOFS. A second before which nothing is due (log 3), and the rows that name a second (R70, R86, log 4): what a second leaves of
the end of the placement wait, and which second each row is. -/

namespace Sys2Proof.Machine

/-! ## Nothing is left over -/

theorem Plant.dispatch_of_not_due {p : Plant} (env : Env) (h : p.due = false) : p.dispatch env = p := by
  unfold Plant.dispatch
  split
  · simp [Plant.passes, h]
  · rw [← h]

theorem State.dispatch_of_not_due {s : State} (h : s.plant.due = false) : s.dispatch = s := by
  rw [State.dispatch, State.onPlant, Plant.dispatch_of_not_due _ h]

theorem State.entryDue_of_nothingDue {s : State} (h : s.nothingDue) (e : Entry) : s.entryDue e = s := by
  obtain ⟨due, budgets, -, -⟩ := h
  have stays : s.onPlant (fun env p => p.budgetOut env e) = s := by simp [State.onPlant, Plant.budgetOut, budgets e]
  rw [State.entryDue, stays, State.dispatch_of_not_due due]

theorem State.trainDue_of_nothingDue {s : State} (h : s.nothingDue) (t : Train) : s.trainDue t = s := by
  obtain ⟨due, -, trains, -⟩ := h
  obtain ⟨window, inhibit, feedback⟩ := trains t
  have start : s.onPlant (fun env p => p.startWindowOut env t) = s := by
    simp [State.onPlant, Plant.startWindowOut, window]
  have stop : s.onPlant (fun env p => p.stopWindowOut env t) = s := by simp [State.onPlant, Plant.stopWindowOut, window]
  have free : s.onPlant (fun env p => p.inhibitOut env t) = s := by simp [State.onPlant, Plant.inhibitOut, inhibit]
  have seen : s.onPlant (fun env p => p.feedbackOut env t) = s := by simp [State.onPlant, Plant.feedbackOut, feedback]
  simp only [State.trainDue, start, stop, free, seen, State.dispatch_of_not_due due]

theorem State.portDue_of_nothingDue {s : State} (h : s.nothingDue) (p : Port) : s.portDue p = s := by
  obtain ⟨due, -, -, timers⟩ := h
  rw [State.portDue, State.linkOut, if_neg (timers p), State.dispatch_of_not_due due]

/-- Events that come to nothing leave the state, however many of them are taken. -/
theorem State.foldl_stays {α : Type} {f : State → α → State} {s : State} (h : ∀ a, f s a = s) (l : List α) :
    l.foldl f s = s := by
  induction l with
  | nil => rfl
  | cons a l ih => rw [List.foldl_cons, h a, ih]

/-- Log 3: with nothing due, a second takes no event before its own. -/
theorem State.takeDue_of_nothingDue {s : State} (h : s.nothingDue) : s.takeDue = s := by
  rw [State.takeDue, State.foldl_stays (State.entryDue_of_nothingDue h), State.foldl_stays (State.trainDue_of_nothingDue h),
    State.foldl_stays (State.portDue_of_nothingDue h)]

theorem State.timebaseSecond_of_nothingDue {s : State} (h : s.nothingDue) : s.timebaseSecond = s.settle.secondBody := by
  rw [State.timebaseSecond, State.takeDue_of_nothingDue h]

/-- Log 4: a row that names a second is that second when what it names comes about, and nothing otherwise. -/
theorem State.happen_secondWith {s : State} (hs : s.supply = .running) (h : s.nothingDue) (comes : State → Bool) :
    s.happen (fun t => t.secondWith comes) = if comes s.settle then s.settle.secondBody.finish else s.finish := by
  rw [State.happen_running hs, State.secondWith, State.takeDue_of_nothingDue h, State.timebaseSecond_of_nothingDue h,
    apply_ite State.finish]

/-! ## The second within an interval -/

/-- R40: a second that turns no interval: the wait, the active slot and the second, then the Sweep. -/
theorem State.secondBody_within {s : State} (synced : s.tb.synced = true) (h : s.tb.second < 899) :
    s.secondBody = State.sweepSecond { s.tickTimers.reserveSecond.accumulate with
      tb := { s.tb with second := s.tb.second + 1 } } := by
  have short : s.tb.second + 1 < 900 := by omega
  simp [State.secondBody, State.bookSecond, synced, short]

/-- R70: the step at the last pointer completes the cycle and starts the next. -/
theorem State.sweepSecond_completes {s : State} (running : s.sweep.running = true) (base : s.sweep.base = s.tb.current)
    (last : 191 ≤ s.sweep.pointer) : s.sweepSecond.sweep = { s.sweep with
      base := s.tb.current, pointer := 0, carried := none, cycles := (s.sweep.cycles + 1) % 65536 } := by
  rw [State.sweepSecond_steps running base, State.sweepStep_sweep, if_neg (Nat.not_lt.2 last)]

/-! ## What follows the wait's end in its second -/

/-- R171: no flag set on the link is lost. -/
def Causes.grows (x y : Causes) : Prop := ∀ n, x.flags.getLsbD n = true → y.flags.getLsbD n = true

theorem Causes.raise_grows (x : Causes) (mask : Word16) : x.grows (x.raise mask) := fun n h => by
  rw [Causes.raise_bit, h, Bool.true_or]

/-- What the Book Unit's part of a second, a turn among it, leaves of what the end of the placement wait has done: the wait,
the flags on GR and the mass. -/
structure State.keepsWait (s t : State) : Prop where
  wait : t.res.wait = s.res.wait
  mass : t.inv.mass = s.inv.mass
  flags : (s.causes .gr).grows (t.causes .gr)

theorem State.keepsWait.refl (s : State) : s.keepsWait s := ⟨rfl, rfl, fun _ => id⟩

theorem State.keepsWait.trans {s t u : State} (h : s.keepsWait t) (k : t.keepsWait u) : s.keepsWait u where
  wait := k.wait.trans h.wait
  mass := k.mass.trans h.mass
  flags n := k.flags n ∘ h.flags n

theorem State.keepsWait.ite {s t u : State} {c : Prop} [Decidable c] (h : s.keepsWait t) (k : s.keepsWait u) :
    s.keepsWait (if c then t else u) := by
  split
  · exact h
  · exact k

/-- A change that leaves the reserve, the account and the flags. -/
theorem State.keepsWait.of_eq {s t : State} (res : t.res = s.res) (inv : t.inv = s.inv)
    (causes : t.plant.causes = s.plant.causes) : s.keepsWait t :=
  ⟨by rw [res], by rw [inv], fun n h => by rw [State.causes, causes]; exact h⟩

theorem State.raise_keepsWait (s : State) (p : Port) (c : Cause) : s.keepsWait (s.raise p c) := by
  refine ⟨rfl, rfl, ?_⟩
  rw [State.causes, State.causes, State.raise, Plant.causes_raise]
  split
  · next gr => exact gr ▸ Causes.raise_grows _ _
  · exact fun _ => id

theorem State.reform_keepsWait (s : State) : s.keepsWait s.reform := by
  refine ⟨?_, by rw [State.reform_inv], fun n h => ?_⟩
  · unfold State.reform
    simp only []
    split <;> rfl
  · rw [State.causes, s.reform_mayBeFull.1 .gr rfl]
    exact h

theorem State.judgeWithheld_keepsWait (s : State) (asked : Bool) : s.keepsWait (s.judgeWithheld asked) := by
  have raised (c : Prop) [Decidable c] : s.keepsWait (if c then s.raise .gr .reserveShort else s) :=
    .ite (s.raise_keepsWait _ _) (.refl s)
  exact (raised _).trans ⟨rfl, rfl, fun _ => id⟩

theorem State.takeHolding_keepsWait (s : State) : s.keepsWait s.takeHolding := by
  have raised (c : Prop) [Decidable c] : s.keepsWait (if c then s else s.raise .gr .actClamped) :=
    .ite (.refl s) (s.raise_keepsWait _ _)
  unfold State.takeHolding
  refine .trans ?_ (State.judgeWithheld_keepsWait _ _)
  refine .trans ?_ (State.reform_keepsWait _)
  exact (raised _).trans ⟨rfl, rfl, fun _ => id⟩

theorem State.activate_keepsWait (s : State) (n : Nat) : s.keepsWait (s.activate n) := by
  have set (x : Slot) : s.keepsWait (s.setSlot n x) := .of_eq rfl rfl rfl
  exact .ite (set _) ((set _).trans (State.raise_keepsWait _ _ _))

/-- R13: standing loss takes heat alone. -/
theorem State.standingLoss_keepsWait (s : State) : s.keepsWait s.standingLoss := by
  refine ⟨rfl, ?_, fun _ => id⟩
  rw [State.standingLoss, State.recomputeHeadroom_inv, Inventory.standingLoss]
  split <;> rfl

theorem State.turn_keepsWait (s : State) : s.keepsWait s.turn := by
  have loss (c : Prop) [Decidable c] (t : State) : t.keepsWait (if c then t.standingLoss else t) :=
    .ite t.standingLoss_keepsWait (.refl t)
  unfold State.turn
  refine .trans ?_ (loss _ _)
  refine .trans ?_ (State.takeHolding_keepsWait _)
  refine .trans ?_ (loss _ _)
  refine .trans ?_ (State.activate_keepsWait _ _)
  refine .trans ?_ (loss _ _)
  exact .of_eq (by simp) (by simp) (by simp)

theorem State.markRisk_keepsWait (s : State) (n : Nat) (r : Option Reason) : s.keepsWait (s.markRisk n r) := by
  have set (x : Slot) : s.keepsWait (s.setSlot n x) := .of_eq rfl rfl rfl
  exact .ite (.ite ((set _).trans (State.raise_keepsWait _ _ _)) (set _)) (.refl s)

theorem State.sweepStart_keepsWait (s : State) : s.keepsWait s.sweepStart := .of_eq rfl rfl rfl

theorem State.sweepSecond_keepsWait (s : State) : s.keepsWait s.sweepSecond := by
  have step : s.keepsWait s.sweepStep := by
    rw [State.sweepStep_eq]
    exact (s.markRisk_keepsWait _ _).trans (.of_eq rfl rfl rfl)
  exact .ite (.refl s) (.ite step s.sweepStart_keepsWait)

theorem State.sweepTurn_keepsWait (s : State) : s.keepsWait s.sweepTurn := .ite s.sweepStart_keepsWait (.refl s)

theorem State.sweepAtTurn_keepsWait (s : State) : s.keepsWait s.sweepAtTurn :=
  .ite (s.sweepTurn_keepsWait.trans (State.sweepSecond_keepsWait _))
    (s.sweepSecond_keepsWait.trans (State.sweepTurn_keepsWait _))

theorem State.bookSecond_keepsWait (s : State) : s.keepsWait s.bookSecond := by
  have counted : s.keepsWait s.accumulate := .of_eq (by simp) (by simp) (by simp)
  have moved (t : State) (b : Timebase) : t.keepsWait { t with tb := b } := .of_eq rfl rfl rfl
  exact counted.trans <| .ite ((moved _ _).trans (State.sweepSecond_keepsWait _))
    ((State.turn_keepsWait _).trans (State.sweepAtTurn_keepsWait _))

/-! ## The end of the placement wait -/

/-- R100: a second on a budget raises nothing and leaves the placement indication. -/
theorem Plant.tickBudget_keeps (p : Plant) (e : Entry) :
    (p.tickBudget e).causes = p.causes ∧ (p.tickBudget e).placed = p.placed := by
  unfold Plant.tickBudget
  split
  · split <;> exact ⟨rfl, rfl⟩
  · exact ⟨rfl, rfl⟩

theorem Plant.tickBudgets_keep (l : List Entry) (p : Plant) :
    (l.foldl (fun q e => q.tickBudget e) p).causes = p.causes
      ∧ (l.foldl (fun q e => q.tickBudget e) p).placed = p.placed := by
  induction l generalizing p with
  | nil => exact ⟨rfl, rfl⟩
  | cons e l ih =>
    obtain ⟨causes, placed⟩ := p.tickBudget_keeps e
    obtain ⟨laterCauses, laterPlaced⟩ := ih (p.tickBudget e)
    exact ⟨laterCauses.trans causes, laterPlaced.trans placed⟩

theorem Plant.second_keeps (p : Plant) : p.second.causes = p.causes ∧ p.second.placed = p.placed := by
  simpa only [Plant.second] using Plant.tickBudgets_keep entryList p

@[simp] theorem State.tickTimers_plant (s : State) : s.tickTimers.plant = s.plant.second := rfl

/-- R86: the seconds that count for the wait. -/
theorem State.waitCounts_iff (s : State) : s.waitCounts = true ↔ s.prot.mode = .normal
    ∧ ∃ k w, s.res.gridTarget = some (k, w) ∧ (w < s.store.cfg.minLoad.get k ∨ s.plant.placed = false) := by
  unfold State.waitCounts
  match s.res.gridTarget with
  | none => simp
  | some (k, w) =>
    simp only [Bool.and_eq_true, Bool.or_eq_true, beq_iff_eq, decide_eq_true_eq, Bool.not_eq_true', Option.some.injEq,
      Prod.mk.injEq]
    refine and_congr_right fun _ => ⟨fun h => ⟨k, w, ⟨rfl, rfl⟩, h⟩, ?_⟩
    rintro ⟨_, _, ⟨rfl, rfl⟩, h⟩
    exact h

theorem State.waitCounts_tickTimers (s : State) : s.tickTimers.waitCounts = s.waitCounts := by
  rw [Bool.eq_iff_iff, State.waitCounts_iff, State.waitCounts_iff]
  simp [s.plant.second_keeps]

/-- R86: the second that brings the wait to 60 raises RESERVE_SHORT. -/
theorem State.reserveSecond_ends {s : State} (counts : s.waitCounts = true) (wait : s.res.wait = 59) :
    s.reserveSecond.res.wait = 60 ∧ s.reserveSecond.inv = s.inv
      ∧ s.reserveSecond.causes .gr = (s.causes .gr).raise (causeMask .gr .reserveShort) := by
  simp [State.reserveSecond, counts, wait, State.causes, State.raise, Plant.causes_raise]

/-- R86: what the second that ends the wait leaves, a turn among it or not. -/
theorem State.secondBody_ends {s : State} (synced : s.tb.synced = true) (counts : s.waitCounts = true)
    (wait : s.res.wait = 59) :
    s.secondBody.res.wait = 60 ∧ s.secondBody.inv.mass = s.inv.mass
      ∧ ((s.causes .gr).enables.getLsbD 1 = true → (s.secondBody.causes .gr).flags.getLsbD 1 = true) := by
  have body : s.secondBody = s.tickTimers.reserveSecond.bookSecond := if_pos synced
  have kept := s.tickTimers.reserveSecond.bookSecond_keepsWait
  obtain ⟨sixty, account, raised⟩ := State.reserveSecond_ends (s := s.tickTimers)
    (s.waitCounts_tickTimers.trans counts) (by rw [State.tickTimers_res, wait])
  rw [body]
  refine ⟨kept.wait.trans sixty, kept.mass.trans (by rw [account, State.tickTimers_inv]), fun enabled => ?_⟩
  refine kept.flags 1 ?_
  have bit : (causeMask .gr .reserveShort).getLsbD 1 = true := by decide
  have enables : (s.tickTimers.causes .gr).enables = (s.causes .gr).enables := by
    simp [State.causes, s.plant.second_keeps]
  rw [raised, Causes.raise_bit, bit, enables, enabled, Bool.and_self, Bool.or_true]

/-! ## The statement -/

theorem State.completesCycle_iff (s : State) : s.completesCycle = true ↔ s.tb.synced = true ∧ s.tb.second < 899
    ∧ s.sweep.running = true ∧ s.sweep.base = s.tb.current ∧ 191 ≤ s.sweep.pointer := by
  simp [State.completesCycle, and_assoc]

theorem State.completesCycle_settle (s : State) : s.settle.completesCycle = s.completesCycle := rfl

theorem State.waitEnds_iff (s : State) : s.waitEnds = true ↔ s.tb.synced = true ∧ s.res.wait = 59 ∧ s.prot.mode = .normal
    ∧ ∃ k w, s.res.gridTarget = some (k, w) ∧ (w < s.store.cfg.minLoad.get k ∨ s.plant.placed = false) := by
  rw [← State.waitCounts_iff, State.waitEnds, Bool.and_eq_true, Bool.and_eq_true, beq_iff_eq, and_right_comm, and_assoc]

/-- R98: settling forms the placement indication anew, which a settled state already shows. -/
theorem State.waitCounts_settle {s : State} (h : s.plant.placed = s.plant.indication s.env) :
    s.settle.waitCounts = s.waitCounts := by
  rw [Bool.eq_iff_iff, State.waitCounts_iff, State.waitCounts_iff]
  simp [h]

theorem State.waitEnds_settle {s : State} (h : s.plant.placed = s.plant.indication s.env) :
    s.settle.waitEnds = s.waitEnds := by
  simp [State.waitEnds, State.waitCounts_settle h]

/-- R70: the second that completes a cycle. -/
theorem State.secondBody_completes {s : State} (h : s.completesCycle = true) :
    s.secondBody.sweep = { s.sweep with
        base := s.tb.current, pointer := 0, carried := none, cycles := (s.sweep.cycles + 1) % 65536 }
      ∧ s.secondBody.tb = ⟨true, s.tb.current, s.tb.second + 1⟩ ∧ s.secondBody.inv = s.inv := by
  obtain ⟨synced, within, running, base, last⟩ := s.completesCycle_iff.1 h
  rw [State.secondBody_within synced within]
  refine ⟨?_, ?_, ?_⟩
  · rw [State.sweepSecond_completes (by simpa using running) (by simpa using base) (by simpa using last)]
    simp
  · simp [synced]
  · simp

/-- Settles O46: each row is the second when it is due, and the end of a step when it is not. -/
theorem namedSeconds : Obligations.NamedSeconds := by
  intro s hs due placed completes ends
  have cycle : exec .sweepCycleComplete s
      = .next (if s.completesCycle then s.settle.secondBody.finish else s.finish) :=
    congrArg _ (State.happen_secondWith hs due State.completesCycle)
  have expiry : exec .placementWaitExpiry s
      = .next (if s.waitEnds then s.settle.secondBody.finish else s.finish) :=
    congrArg _ ((State.happen_secondWith hs due State.waitEnds).trans (by rw [State.waitEnds_settle placed]))
  refine ⟨fun h => ?_, fun h => ?_, fun h => ?_, fun h => ?_⟩
  · have comes := s.completesCycle_iff.2 h
    obtain ⟨sweep, tb, inv⟩ := State.secondBody_completes (s.completesCycle_settle.trans comes)
    obtain ⟨-, -, running, -, -⟩ := h
    refine ⟨s.settle.secondBody.finish, by rw [cycle, if_pos comes], ?_⟩
    simp [sweep, tb, inv, running]
  · rw [cycle, if_neg (mt s.completesCycle_iff.1 h)]
  · have comes := s.waitEnds_iff.2 h
    obtain ⟨synced, wait, counts⟩ := h
    obtain ⟨sixty, mass, flags⟩ := State.secondBody_ends (s := s.settle) synced
      ((State.waitCounts_settle placed).trans (s.waitCounts_iff.2 counts)) wait
    refine ⟨s.settle.secondBody.finish, by rw [expiry, if_pos comes], sixty, fun enabled => ?_, ?_, ?_, ?_, mass⟩
    · rw [State.causes, State.finish_causes]
      exact flags enabled
    · exact ((State.secondBody_calm s.settle).tb synced).1
    · simp
    · simp
  · rw [expiry, if_neg (mt s.waitEnds_iff.1 h)]

end Sys2Proof.Machine
end

section
/-! PROOFS. The Reserve Unit's operations, each said once (R82 to R85), and the statements on netting, on the targets handed
and on ACTIVATE with the withheld condition (R78). -/

namespace Sys2Proof.Machine

open Sys2Proof.Claims

/-! ## Netting -/

@[simp] theorem signed_none : signed none = 0 := rfl

/-- R82: a target signed by its kind is the power it was made from. -/
@[simp] theorem signed_targetOf (w : Int) : signed (targetOf w) = w := by
  unfold targetOf
  rcases Int.lt_trichotomy w 0 with below | zero | above
  · rw [if_neg (by omega), if_neg (by omega)]
    simp only [signed]
    omega
  · rw [if_pos zero, signed, zero]
  · rw [if_neg (by omega), if_pos above]
    simp only [signed]
    omega

/-- R82: a target that is present is above 0, EXPAND for a power above 0 and COMPRESS below. -/
theorem targetOf_eq_some {w : Int} {k : Kind} {v : Nat} (h : targetOf w = some (k, v)) :
    0 < v ∧ ((k = .expand ∧ 0 < w) ∨ (k = .compress ∧ w < 0)) := by
  unfold targetOf at h
  split at h
  · cases h
  · split at h <;> cases h
    · exact ⟨by omega, .inl ⟨rfl, by omega⟩⟩
    · exact ⟨by omega, .inr ⟨rfl, by omega⟩⟩

/-- Table 5-2: powers of one sign stand each by itself. -/
theorem net_alike {b a : Int} (h : (0 ≤ b ∧ 0 ≤ a) ∨ (b ≤ 0 ∧ a ≤ 0)) : net b a = (targetOf b, targetOf a) :=
  if_pos (by omega)

/-- Table 5-2, note 2: of powers of opposite signs the larger alone keeps a target, the two netted. -/
theorem net_opposed {b a : Int} (h : (0 < b ∧ a < 0) ∨ (b < 0 ∧ 0 < a)) :
    net b a = if a.natAbs ≤ b.natAbs then (targetOf (b + a), none) else (none, targetOf (b + a)) :=
  if_neg (by omega)

theorem alike_or_opposed (b a : Int) :
    ((0 ≤ b ∧ 0 ≤ a) ∨ (b ≤ 0 ∧ a ≤ 0)) ∨ ((0 < b ∧ a < 0) ∨ (b < 0 ∧ 0 < a)) := by omega

/-- R82: what netting makes of the two powers, in three cases. -/
theorem net_cases (b a : Int) :
    (((0 ≤ b ∧ 0 ≤ a) ∨ (b ≤ 0 ∧ a ≤ 0)) ∧ net b a = (targetOf b, targetOf a))
    ∨ net b a = (targetOf (b + a), none) ∨ net b a = (none, targetOf (b + a)) := by
  rcases alike_or_opposed b a with h | h
  · exact .inl ⟨h, net_alike h⟩
  · rw [net_opposed h]
    split
    · exact .inr (.inl rfl)
    · exact .inr (.inr rfl)

/-- R82: nothing is lost in netting. -/
theorem signed_net (b a : Int) : signed (net b a).1 + signed (net b a).2 = b + a := by
  rcases net_cases b a with ⟨_, h⟩ | h | h <;> simp [h]

/-- R82: two targets above 0 are of one kind. -/
theorem net_kinds {b a : Int} {k j : Kind} {v w : Nat} (h : net b a = (some (k, v), some (j, w))) : k = j := by
  rcases net_cases b a with ⟨alike, e⟩ | e | e
  · obtain ⟨book, grid⟩ := Prod.mk.inj (e.symm.trans h)
    obtain ⟨_, bookKind⟩ := targetOf_eq_some book
    obtain ⟨_, gridKind⟩ := targetOf_eq_some grid
    rcases bookKind with ⟨rfl, _⟩ | ⟨rfl, _⟩ <;> rcases gridKind with ⟨rfl, _⟩ | ⟨rfl, _⟩
    · rfl
    · omega
    · omega
    · rfl
  · nomatch (Prod.mk.inj (e.symm.trans h)).2
  · nomatch (Prod.mk.inj (e.symm.trans h)).1

/-- R82: a target that netting leaves is above 0. -/
theorem net_pos {b a : Int} {k : Kind} {w : Nat} (h : (net b a).1 = some (k, w) ∨ (net b a).2 = some (k, w)) : 0 < w := by
  have left : ∃ x, some (k, w) = targetOf x := by
    rcases net_cases b a with ⟨_, e⟩ | e | e <;> rw [e] at h <;> rcases h with h | h
    · exact ⟨b, h.symm⟩
    · exact ⟨a, h.symm⟩
    · exact ⟨b + a, h.symm⟩
    · nomatch h
    · nomatch h
    · exact ⟨b + a, h.symm⟩
  obtain ⟨x, made⟩ := left
  exact (targetOf_eq_some made.symm).1

/-- Settles O33: the cases of Table 5-2. -/
theorem nettingAddsUp : Obligations.NettingAddsUp := by
  intro b a
  refine ⟨signed_net b a, fun alike => ?_, fun opposed => ?_, fun k j v w => net_kinds, fun k w => net_pos⟩
  · rw [net_alike alike]
    exact ⟨signed_targetOf b, signed_targetOf a⟩
  · rw [net_opposed opposed]
    split <;> rfl

/-! ## The targets as the state calls for them -/

/-- R83, R94: what the Dispatch Unit's cut leaves of a target. -/
theorem State.effectiveTarget_eq (s : State) (t : Target) : s.env.effectiveTarget t = cut s t := by
  match t with
  | none => rfl
  | some (k, w) =>
    have mode : s.env.mode = s.prot.mode := rfl
    have inhibited : s.env.inhibited k = true ↔ (k = .compress ∧ s.prot.chargeInhibit = true)
        ∨ (k = .expand ∧ s.prot.dischargeInhibit = true) := by
      cases k <;> simp [Env.inhibited, State.env]
    simp only [Env.effectiveTarget, cut, mode, inhibited, ← or_assoc (c := _ ∨ _)]
    by_cases stopped : s.prot.mode = .setup ∨ s.prot.mode = .trip
    · rw [if_pos stopped, if_pos (.inl stopped)]
    · simp only [stopped, false_or, if_false]

theorem State.targets_eq (s : State) :
    s.targets = (cut s (net (4 * s.active.e) s.res.a).1, cut s (net (4 * s.active.e) s.res.a).2) := by
  rw [State.targets, State.effectiveTarget_eq, State.effectiveTarget_eq]

/-- Settles O34: the cut of the one pair is the cut of the other, and the rest is R84's rule. -/
theorem targetsAreHandedWhenTheyChange : Obligations.TargetsAreHandedWhenTheyChange := by
  intro s n pair
  have targets : s.targets = pair := s.targets_eq
  refine ⟨targets, ?_⟩
  rw [← targets]
  rfl

/-! ## The withheld condition -/

/-- R85: when an activation is withheld. -/
theorem State.withholds_iff (s : State) : s.withholds = true ↔ s.res.a ≠ 0 ∧ (s.prot.mode ≠ .normal
    ∨ (0 < s.res.a ∧ s.prot.dischargeInhibit = true) ∨ (s.res.a < 0 ∧ s.prot.chargeInhibit = true)) := by
  simp [State.withholds, or_assoc]

/-- R85: judging writes the mark, and raises RESERVE_SHORT when it comes to stand or is asked for. -/
theorem State.judgeWithheld_eq (s : State) (asked : Bool) :
    s.judgeWithheld asked = { s with
      res := { s.res with withheld := s.withholds }
      plant := if s.withholds = true ∧ (asked = true ∨ s.res.withheld = false) then s.plant.raise .gr .reserveShort
        else s.plant } := by
  have raises : (s.withholds && (asked || !s.res.withheld)) = true
      ↔ s.withholds = true ∧ (asked = true ∨ s.res.withheld = false) := by simp
  unfold State.judgeWithheld
  simp only [raises]
  split <;> rfl

/-! ## ACTIVATE -/

/-- R78: the activation, its clamp and what follows, whole. -/
theorem State.takeActivation_eq (s : State) (v : Int) :
    let a := s.clampToHolding v
    s.takeActivation v = State.judgeWithheld (State.reform { s with
      res := { s.res with a := a, requested := v }
      plant := if a = v then s.plant else s.plant.raise .gr .actClamped }) true := by
  unfold State.takeActivation
  by_cases h : s.clampToHolding v = v
  · simp only [if_pos h]
  · simp only [if_neg h]
    rfl

/-- What receiving a frame leaves of the holding. -/
theorem State.received_active (s : State) (p : Port) : (s.received p).active = s.active := by
  simp only [State.active, State.received_tb, State.received_book]

/-- Settles O37: the request is its row's body, and judging is one equation. -/
theorem activationAndWithholding : Obligations.ActivationAndWithholding := by
  refine ⟨fun f s v accepted gr fields => ?_, fun s asked => ?_⟩
  · intro u a
    have served : exec (.activate f) s = .next (State.reply 48#8 f (activateBody f.port [v] u)) :=
      congrArg _ (State.request_taken (r := rowActivate) accepted (by simp [rowActivate, isGrid, gr]) fields)
    have clamp : u.clampToHolding v = a := by simp only [State.clampToHolding, u, State.received_active, a]
    have range : (v < -1000000 ∨ 1000000 < v) ↔ 1000000 < v.natAbs := by omega
    have synced : u.tb.synced = s.tb.synced := by rw [State.received_tb]
    rw [served, activateBody]
    simp only [range, synced, Bool.not_eq_true', State.takeActivation_eq, clamp]
    split
    · rfl
    · split <;> rfl
  · intro t
    have judged : t = _ := s.judgeWithheld_eq asked
    have mark : t.res.withheld = s.withholds := by rw [judged]
    refine ⟨mark ▸ s.withholds_iff, ?_⟩
    rw [mark]
    exact judged

end Sys2Proof.Machine
end

section
/-! PROOFS. The targets that the Dispatch Unit holds, through its machinery (R94): no operation on orders, gates and trains writes
them. -/

namespace Sys2Proof.Machine

/-- R94: the pair of targets that the Dispatch Unit holds, as (BOOK, GRID). -/
def Plant.held (p : Plant) : Target × Target := (p.heldBook, p.heldGrid)

theorem Plant.foldl_held {α : Type} {f : Plant → α → Plant} (h : ∀ p a, (f p a).held = p.held) (l : List α) (p : Plant) :
    (l.foldl f p).held = p.held := by
  induction l generalizing p with
  | nil => rfl
  | cons a l ih => exact (ih _).trans (h p a)

/-! ## Records, lists and causes -/

@[simp] theorem Plant.held_modOrd (p : Plant) (e : Entry) (f : Order → Order) : (p.modOrd e f).held = p.held := rfl
@[simp] theorem Plant.held_modTrain (p : Plant) (t : Train) (f : TrainRec → TrainRec) : (p.modTrain t f).held = p.held := rfl
@[simp] theorem Plant.held_modGate (p : Plant) (g : Store × Kind) (f : Gate → Gate) : (p.modGate g f).held = p.held := rfl
@[simp] theorem Plant.held_tick (p : Plant) : p.tick.held = p.held := rfl
@[simp] theorem Plant.held_event (p : Plant) : p.event.held = p.held := rfl
@[simp] theorem Plant.held_readyTail (p : Plant) (e : Entry) : (p.readyTail e).held = p.held := rfl
@[simp] theorem Plant.held_readyHead (p : Plant) (e : Entry) : (p.readyHead e).held = p.held := rfl
@[simp] theorem Plant.held_raise (p : Plant) (q : Port) (c : Cause) : (p.raise q c).held = p.held := rfl

@[simp] theorem Plant.held_raiseOn (p : Plant) (l : List Port) (c : Cause) : (p.raiseOn l c).held = p.held :=
  Plant.foldl_held (fun q port => q.held_raise port c) l p

/-! ## Conditions of an order -/

@[simp] theorem Plant.held_leave (p : Plant) (e : Entry) : (p.leave e).held = p.held := by
  unfold Plant.leave
  simp only []
  split
  case h_3 | h_4 => split <;> rfl
  all_goals rfl

@[simp] theorem Plant.held_toWait (p : Plant) (e : Entry) : (p.toWait e).held = p.held := p.held_leave e

@[simp] theorem Plant.held_promote (p : Plant) (g : Store × Kind) : (p.promote g).held = p.held := by
  unfold Plant.promote
  split
  · rfl
  · simp only []
    split <;> rfl

@[simp] theorem Plant.held_promoteN (p : Plant) (g : Store × Kind) (n : Nat) : (p.promoteN g n).held = p.held := by
  induction n generalizing p with
  | zero => rfl
  | succ n ih => exact (ih _).trans (p.held_promote g)

@[simp] theorem Plant.held_promoteFreed (p before : Plant) : (p.promoteFreed before).held = p.held := by
  refine Plant.foldl_held (fun q g => ?_) gateList p
  split
  · exact q.held_promoteN g _
  · rfl

@[simp] theorem Plant.held_keepStaged (p : Plant) (t : Train) : (p.keepStaged t).held = p.held := by
  rw [Plant.keepStaged_eq]
  rfl

@[simp] theorem Plant.held_toStopping (p : Plant) (cfg : Cfg) (t : Train) : (p.toStopping cfg t).held = p.held := by
  simp [Plant.toStopping]

@[simp] theorem Plant.held_post (p : Plant) (t : Train) : (p.post t).held = p.held := by
  unfold Plant.post
  split <;> rfl

@[simp] theorem Plant.held_dropCurrent (p : Plant) (t : Train) : (p.dropCurrent t).held = p.held := by
  unfold Plant.dropCurrent
  split <;> simp

@[simp] theorem Plant.held_dropStaged (p : Plant) (t : Train) : (p.dropStaged t).held = p.held := by
  unfold Plant.dropStaged
  split <;> simp

/-! ## Retirement, creation and the retarget -/

@[simp] theorem Plant.held_retireOne (p : Plant) (cfg : Cfg) (e : Entry) (cause : RetireCause) :
    (p.retireOne cfg e cause).held = p.held := by
  unfold Plant.retireOne
  simp only [Plant.held_event, Plant.held_tick, Plant.held_modOrd]
  split
  · split <;> simp
  · simp

@[simp] theorem Plant.held_retireSet (p : Plant) (cfg : Cfg) (l : List (Entry × RetireCause)) :
    (p.retireSet cfg l).held = p.held := by
  unfold Plant.retireSet
  rw [Plant.held_promoteFreed]
  exact Plant.foldl_held (fun q (x : Entry × RetireCause) => q.held_retireOne cfg x.1 x.2) l p

theorem Plant.held_create {p q : Plant} {env : Env} {n : NewOrder} {e : Entry} (h : p.create env n = some (e, q)) :
    q.held = p.held := by
  unfold Plant.create at h
  split at h
  · cases h
  · cases h
    rfl

@[simp] theorem Plant.held_createN (p : Plant) (env : Env) (n : NewOrder) (count : Nat) :
    (p.createN env n count).2.held = p.held := by
  induction count generalizing p with
  | zero => rfl
  | succ count ih =>
    unfold Plant.createN
    split
    · rfl
    · next created => exact (ih _).trans (Plant.held_create created)

@[simp] theorem Plant.held_lacking (p : Plant) (env : Env) (o : Origin) (tgt : Target) (kept : Nat) :
    (p.lacking env o tgt kept).2.held = p.held := by
  unfold Plant.lacking
  split <;> simp

@[simp] theorem Plant.held_setSetpoint (p : Plant) (e : Entry) (w : Nat) : (p.setSetpoint e w).held = p.held := by
  unfold Plant.setSetpoint
  split
  · rfl
  · simp only []
    split <;> simp

@[simp] theorem Plant.held_split (p : Plant) (cfg : Cfg) (k : Kind) (w n i : Nat) (l : List Entry) :
    (p.split cfg k w n i l).held = p.held := by
  induction l generalizing p i with
  | nil => rfl
  | cons e l ih => exact (ih _ _).trans (p.held_setSetpoint e _)

@[simp] theorem Plant.held_splitTarget (p : Plant) (cfg : Cfg) (tgt : Target) (l : List Entry) :
    (p.splitTarget cfg tgt l).held = p.held := by
  unfold Plant.splitTarget
  split <;> simp

/-- The short mark is no target (R97). -/
@[simp] theorem Plant.held_setShort (p : Plant) (b : Bool) : ({ p with short := b } : Plant).held = p.held := rfl

/-- R97: a retarget works from the targets held and leaves them. -/
@[simp] theorem Plant.held_retarget (p : Plant) (env : Env) : (p.retarget env).held = p.held := by
  unfold Plant.retarget
  simp only []
  split
  · refine (Plant.held_raiseOn _ _ _).trans ((Plant.held_setShort _ _).trans ?_)
    simp
  · refine (Plant.held_setShort _ _).trans ?_
    simp

@[simp] theorem Plant.held_retireAll (p : Plant) (env : Env) (l : List (Entry × RetireCause)) :
    (p.retireAll env l).held = p.held := by
  unfold Plant.retireAll
  simp only []
  split
  · rfl
  · split <;> simp

/-! ## The dispatch pass -/

@[simp] theorem Plant.held_makeCurrent (p : Plant) (e : Entry) (t : Train) : (p.makeCurrent e t).held = p.held := by
  simp [Plant.makeCurrent]

@[simp] theorem Plant.held_place (p : Plant) (env : Env) (e : Entry) (t : Train) : (p.place env e t).held = p.held := by
  simp [Plant.place]

@[simp] theorem Plant.held_stageOn (p : Plant) (e : Entry) (t : Train) : (p.stageOn e t).held = p.held := by
  simp [Plant.stageOn]

@[simp] theorem Plant.held_relabel (p : Plant) (e : Entry) (t : Train) (v : Entry) : (p.relabel e t v).held = p.held := by
  simp [Plant.relabel]

@[simp] theorem Plant.held_unbar (p : Plant) (env : Env) (e : Entry) : (p.unbar env e).held = p.held := by
  unfold Plant.unbar
  simp only []
  split <;> rfl

@[simp] theorem Plant.held_considerReady (p : Plant) (env : Env) (e : Entry) : (p.considerReady env e).held = p.held := by
  unfold Plant.considerReady
  simp only []
  split
  · simp
  · split
    · split <;> simp
    · split
      · simp
      · split
        · simp
        · simp
        · split <;> simp

@[simp] theorem Plant.held_considerStaged (p : Plant) (env : Env) (e : Entry) :
    (p.considerStaged env e).held = p.held := by
  unfold Plant.considerStaged
  split
  · split <;> simp
  · rfl

@[simp] theorem Plant.held_consider (start p : Plant) (env : Env) (e : Entry) :
    (Plant.consider start p env e).held = p.held := by
  unfold Plant.consider
  split <;> simp

@[simp] theorem Plant.held_pass (p : Plant) (env : Env) : (p.pass env).held = p.held :=
  Plant.foldl_held (fun q e => p.held_consider q env e) p.passOrder { p with due := false }

@[simp] theorem Plant.held_passes (env : Env) (n : Nat) (p : Plant) : (Plant.passes env n p).held = p.held := by
  induction n generalizing p with
  | zero => rfl
  | succ n ih =>
    unfold Plant.passes
    split
    · exact (ih _).trans (p.held_pass env)
    · rfl

@[simp] theorem Plant.held_dispatch (p : Plant) (env : Env) : (p.dispatch env).held = p.held := by
  unfold Plant.dispatch
  split
  · exact Plant.held_passes env 256 p
  · rfl

/-! ## Train transitions -/

@[simp] theorem Plant.held_resolveStaged (p : Plant) (env : Env) (t : Train) : (p.resolveStaged env t).held = p.held := by
  unfold Plant.resolveStaged
  split
  · rfl
  · split
    · split <;> simp
    · simp

@[simp] theorem Plant.held_becomeFree (p : Plant) (env : Env) (t : Train) : (p.becomeFree env t).held = p.held := by
  simp [Plant.becomeFree]

@[simp] theorem Plant.held_toIdle (p : Plant) (env : Env) (t : Train) : (p.toIdle env t).held = p.held := by
  simp [Plant.toIdle]

@[simp] theorem Plant.held_toIdleInhibited (p : Plant) (env : Env) (t : Train) :
    (p.toIdleInhibited env t).held = p.held := by
  unfold Plant.toIdleInhibited
  split <;> simp

@[simp] theorem Plant.held_toOffline (p : Plant) (t : Train) : (p.toOffline t).held = p.held := by
  simp [Plant.toOffline]

@[simp] theorem Plant.held_toFault (p : Plant) (env : Env) (t : Train) (cause : FaultCause) :
    (p.toFault env t cause).held = p.held := by
  unfold Plant.toFault
  simp only []
  split <;> split <;> simp

@[simp] theorem Plant.held_loseTrains (p : Plant) (cfg : Cfg) (port : Port) : (p.loseTrains cfg port).held = p.held := by
  refine (Plant.held_promoteFreed _ p).trans (Plant.foldl_held (fun q t => ?_) trainList p)
  split
  · simp
  · rfl

@[simp] theorem Plant.held_reportMove (p : Plant) (env : Env) (t : Train) (r : Reported) :
    (p.reportMove env t r).held = p.held := by
  unfold Plant.reportMove
  simp only []
  split
  case h_1 | h_7 | h_13 | h_14 | h_17 => split <;> simp
  all_goals simp

@[simp] theorem Plant.held_report (p : Plant) (env : Env) (t : Train) (r : Reported) (power : Nat) :
    (p.report env t r power).held = p.held := by
  simp [Plant.report]

@[simp] theorem Plant.held_feedbackMove (p : Plant) (env : Env) (t : Train) : (p.feedbackMove env t).held = p.held := by
  unfold Plant.feedbackMove
  simp only []
  split
  case h_5 | h_6 => split <;> simp
  all_goals rfl

@[simp] theorem Plant.held_clearFault (p : Plant) (env : Env) (t : Train) : (p.clearFault env t).held = p.held := by
  unfold Plant.clearFault
  split <;> simp

@[simp] theorem Plant.held_holdTrains (p : Plant) (cfg : Cfg) (mask : PerTrain Bool) :
    (p.holdTrains cfg mask).held = p.held := by
  refine (Plant.held_promoteFreed _ p).trans (Plant.foldl_held (fun q t => ?_) trainList p)
  split
  · rfl
  · split <;> simp

@[simp] theorem Plant.held_clearCaps (p : Plant) : p.clearCaps.held = p.held :=
  Plant.foldl_held (fun q t => by simp) trainList p

/-! ## Timers -/

@[simp] theorem Plant.held_tickBudget (p : Plant) (e : Entry) : (p.tickBudget e).held = p.held := by
  unfold Plant.tickBudget
  split
  · split <;> rfl
  · rfl

@[simp] theorem Plant.held_second (p : Plant) : p.second.held = p.held := by
  have ticked := Plant.foldl_held (fun q e => q.held_tickBudget e) entryList p
  simpa only [Plant.second, Plant.held] using ticked

@[simp] theorem Plant.held_startWindowOut (p : Plant) (env : Env) (t : Train) : (p.startWindowOut env t).held = p.held := by
  unfold Plant.startWindowOut
  split <;> simp

@[simp] theorem Plant.held_stopWindowOut (p : Plant) (env : Env) (t : Train) : (p.stopWindowOut env t).held = p.held := by
  unfold Plant.stopWindowOut
  split <;> simp

@[simp] theorem Plant.held_inhibitOut (p : Plant) (env : Env) (t : Train) : (p.inhibitOut env t).held = p.held := by
  unfold Plant.inhibitOut
  split <;> simp

@[simp] theorem Plant.held_feedbackOut (p : Plant) (env : Env) (t : Train) : (p.feedbackOut env t).held = p.held := by
  unfold Plant.feedbackOut
  split
  · split <;> simp
  · rfl

@[simp] theorem Plant.held_budgetOut (p : Plant) (env : Env) (e : Entry) : (p.budgetOut env e).held = p.held := by
  unfold Plant.budgetOut
  split <;> simp

/-! ## Gates -/

@[simp] theorem Plant.held_openGate (p : Plant) (cfg : Cfg) (g : Store × Kind) : (p.openGate cfg g).held = p.held := by
  simp [Plant.openGate]

@[simp] theorem Plant.held_testGate (p : Plant) (env : Env) (g : Store × Kind) : (p.testGate env g).held = p.held := by
  unfold Plant.testGate
  split
  · rfl
  · split <;> split <;> simp

@[simp] theorem Plant.held_evaluateGates (p : Plant) (env : Env) : (p.evaluateGates env).held = p.held :=
  (Plant.held_retireAll _ env _).trans (Plant.foldl_held (fun q g => q.held_testGate env g) gateList p)

@[simp] theorem Plant.held_isolate (p : Plant) (env : Env) (s : Store) : (p.isolate env s).held = p.held := by
  simp [Plant.isolate]

@[simp] theorem Plant.held_unisolate (p : Plant) (env : Env) (s : Store) : (p.unisolate env s).held = p.held := by
  refine Plant.foldl_held (fun q g => ?_) _ p
  split <;> simp

@[simp] theorem Plant.held_inhibitKind (p : Plant) (env : Env) (k : Kind) : (p.inhibitKind env k).held = p.held :=
  p.held_retireAll env _

@[simp] theorem Plant.held_tripAll (p : Plant) (env : Env) : (p.tripAll env).held = p.held := p.held_retireAll env _

end Sys2Proof.Machine
end

section
/-! PROOFS. The reserve through the shared operations (R79 to R84): one relation, `State.steady`, for changes that leave all
that the Reserve Unit reads and writes, and one, `State.keepsReserve`, for those that keep both invariants because it has
taken its holding and handed its targets anew. -/

namespace Sys2Proof.Machine

/-! ## What the two invariants are made of -/

/-- R77, R82: the energy and the holding of a slot's effective values. -/
def Effective.terms (f : Effective) : Int × Int × Int := (f.e, f.up, f.dn)

/-- R84: the pair of targets last handed, as (BOOK, GRID). -/
def Reserve.handed (r : Reserve) : Target × Target := (r.bookTarget, r.gridTarget)

/-- R57: an open page lies within the book's span. -/
def State.pageInSpan (s : State) : Prop :=
  ∀ g, s.book.page = some g → s.tb.synced = true ∧ 96 * g.day + 95 ≤ s.tb.current + 191

/-- R81: the activation is 0 once the GR link timer has expired. -/
def State.lostAtRest (s : State) : Prop := s.prot.timers.gr = .expired → s.res.a = 0

/-- R79: the activation lies within the holding. -/
def State.withinHolding (s : State) : Prop :=
  0 ≤ s.active.up ∧ 0 ≤ s.active.dn ∧ -s.active.dn ≤ s.res.a ∧ s.res.a ≤ s.active.up

theorem State.activationHeld_iff (s : State) : s.activationHeld ↔ s.withinHolding ∧ s.lostAtRest ∧ s.pageInSpan := by
  simp only [State.activationHeld, State.withinHolding, State.lostAtRest, State.pageInSpan, and_assoc]

theorem State.targetsHanded_iff (s : State) :
    s.targetsHanded ↔ s.targets = s.res.handed ∧ s.plant.held = s.res.handed ∧ s.pageInSpan := by
  simp only [State.targetsHanded, Plant.held, Reserve.handed, State.pageInSpan, Prod.mk.injEq, and_assoc]

theorem State.activationHeld.pageInSpan {s : State} (h : s.activationHeld) : s.pageInSpan := by
  obtain ⟨_, _, page⟩ := s.activationHeld_iff.1 h
  exact page

theorem State.targetsHanded.pageInSpan {s : State} (h : s.targetsHanded) : s.pageInSpan := by
  obtain ⟨_, _, page⟩ := s.targetsHanded_iff.1 h
  exact page

/-! ## Relations -/

/-- The activation, the targets last handed and those held stay, whatever the active slot, the mode and the inhibits become. -/
structure State.sameReserve (s t : State) : Prop where
  a : t.res.a = s.res.a
  handed : t.res.handed = s.res.handed
  held : t.plant.held = s.plant.held
  lost : t.prot.timers.gr = .expired → s.prot.timers.gr = .expired
  page : s.pageInSpan → t.pageInSpan

/-- All that the Reserve Unit reads and writes stays. -/
structure State.steady (s t : State) : Prop where
  same : s.sameReserve t
  terms : t.active.terms = s.active.terms
  mode : t.prot.mode = s.prot.mode
  charge : t.prot.chargeInhibit = s.prot.chargeInhibit
  discharge : t.prot.dischargeInhibit = s.prot.dischargeInhibit

/-- Both invariants of the reserve are kept. -/
structure State.keepsReserve (s t : State) : Prop where
  activation : s.activationHeld → t.activationHeld
  targets : s.targetsHanded → t.targetsHanded

theorem State.sameReserve.trans {s t u : State} (h : s.sameReserve t) (k : t.sameReserve u) : s.sameReserve u where
  a := k.a.trans h.a
  handed := k.handed.trans h.handed
  held := k.held.trans h.held
  lost := h.lost ∘ k.lost
  page := k.page ∘ h.page

theorem State.steady.trans {s t u : State} (h : s.steady t) (k : t.steady u) : s.steady u where
  same := h.same.trans k.same
  terms := k.terms.trans h.terms
  mode := k.mode.trans h.mode
  charge := k.charge.trans h.charge
  discharge := k.discharge.trans h.discharge

theorem State.keepsReserve.trans {s t u : State} (h : s.keepsReserve t) (k : t.keepsReserve u) : s.keepsReserve u :=
  ⟨k.activation ∘ h.activation, k.targets ∘ h.targets⟩

/-- The active slot's values come from the Timebase and the slots alone. -/
theorem State.active_congr {s t : State} (tb : t.tb = s.tb) (slots : t.book.slots = s.book.slots) : t.active = s.active := by
  simp only [State.active, Book.slot, tb, slots]

/-- A change of neither the Timebase, the book's slots and page, the reserve, the targets held nor the Protection Unit's
mode, inhibits and timers. -/
theorem State.steady.of_eq {s t : State} (tb : t.tb = s.tb) (book : t.book = s.book) (res : t.res.handed = s.res.handed)
    (a : t.res.a = s.res.a) (held : t.plant.held = s.plant.held) (mode : t.prot.mode = s.prot.mode)
    (charge : t.prot.chargeInhibit = s.prot.chargeInhibit) (discharge : t.prot.dischargeInhibit = s.prot.dischargeInhibit)
    (timers : t.prot.timers.gr = .expired → s.prot.timers.gr = .expired) : s.steady t where
  same := ⟨a, res, held, timers, fun h => by simpa only [State.pageInSpan, tb, book] using h⟩
  terms := by rw [State.active_congr tb (by rw [book])]
  mode := mode
  charge := charge
  discharge := discharge

/-- All of the state that the Reserve Unit reads or writes. -/
def State.reserveView (s : State) :
    Timebase × Book × Reserve × (Target × Target) × PlantMode × Bool × Bool × PerPort LinkTimer :=
  (s.tb, s.book, { s.res with requested := 0, withheld := false, wait := 0 }, s.plant.held, s.prot.mode,
    s.prot.chargeInhibit, s.prot.dischargeInhibit, s.prot.timers)

theorem State.steady.of_view {s t : State} (h : t.reserveView = s.reserveView) : s.steady t := by
  simp only [State.reserveView, Prod.mk.injEq, Reserve.mk.injEq, true_and, and_true] at h
  obtain ⟨tb, book, ⟨a, bookTarget, gridTarget⟩, held, mode, charge, discharge, timers⟩ := h
  exact .of_eq tb book (Prod.ext bookTarget gridTarget) a held mode charge discharge fun e => timers ▸ e

theorem State.steady.refl (s : State) : s.steady s := .of_view rfl

theorem State.steady.andThen {s t : State} {f : State → State} (h : s.steady t) (k : ∀ t : State, t.steady (f t)) :
    s.steady (f t) := h.trans (k t)

theorem State.steady.ite {s t u : State} {c : Prop} [Decidable c] (h : s.steady t) (k : s.steady u) :
    s.steady (if c then t else u) := by
  split
  · exact h
  · exact k

theorem State.steady.foldl {α : Type} {f : State → α → State} (h : ∀ (s : State) (a : α), s.steady (f s a)) (l : List α)
    (s : State) : s.steady (l.foldl f s) := by
  induction l generalizing s with
  | nil => exact .refl s
  | cons a l ih => exact (h s a).trans (ih _)

/-! ### What a steady change keeps -/

theorem Effective.terms_inj {f g : Effective} (h : f.terms = g.terms) : f.e = g.e ∧ f.up = g.up ∧ f.dn = g.dn := by
  simpa only [Effective.terms, Prod.mk.injEq] using h

/-- R83, R94: the cut of a target depends on the mode and the inhibits alone. -/
theorem State.steady.cut_eq {s t : State} (h : s.steady t) (x : Target) : Sys2Proof.Claims.cut t x = Sys2Proof.Claims.cut s x := by
  simp only [Claims.cut, h.mode, h.charge, h.discharge]

theorem State.steady.targets_eq {s t : State} (h : s.steady t) : t.targets = s.targets := by
  obtain ⟨e, _, _⟩ := Effective.terms_inj h.terms
  simp only [State.targets_eq, h.cut_eq, e, h.same.a]

theorem State.sameReserve.lostAtRest {s t : State} (h : s.sameReserve t) (k : s.lostAtRest) : t.lostAtRest :=
  fun lost => h.a.trans (k (h.lost lost))

/-- R79: the same holding and the same activation. -/
theorem State.sameReserve.activationHeld {s t : State} (h : s.sameReserve t) (terms : t.active.terms = s.active.terms)
    (k : s.activationHeld) : t.activationHeld := by
  obtain ⟨_, up, dn⟩ := Effective.terms_inj terms
  obtain ⟨within, lost, page⟩ := s.activationHeld_iff.1 k
  refine t.activationHeld_iff.2 ⟨?_, h.lostAtRest lost, h.page page⟩
  simpa only [State.withinHolding, up, dn, h.a] using within

theorem State.steady.keepsReserve {s t : State} (h : s.steady t) : s.keepsReserve t where
  activation := h.same.activationHeld h.terms
  targets k := by
    obtain ⟨targets, held, page⟩ := s.targetsHanded_iff.1 k
    exact t.targetsHanded_iff.2 ⟨by rw [h.targets_eq, targets, h.same.handed],
      by rw [h.same.held, held, h.same.handed], h.same.page page⟩

theorem State.keepsReserve.refl (s : State) : s.keepsReserve s := (State.steady.refl s).keepsReserve

theorem State.keepsReserve.andThen {s t : State} {f : State → State} (h : s.keepsReserve t)
    (k : ∀ t : State, t.keepsReserve (f t)) : s.keepsReserve (f t) := h.trans (k t)

theorem State.keepsReserve.ite {s t u : State} {c : Prop} [Decidable c] (h : s.keepsReserve t) (k : s.keepsReserve u) :
    s.keepsReserve (if c then t else u) := by
  split
  · exact h
  · exact k

theorem State.keepsReserve.foldl {α : Type} {f : State → α → State} (h : ∀ (s : State) (a : α), s.keepsReserve (f s a))
    (l : List α) (s : State) : s.keepsReserve (l.foldl f s) := by
  induction l generalizing s with
  | nil => exact .refl s
  | cons a l ih => exact (h s a).trans (ih _)

/-- Either invariant has an open page within the book's span. -/
theorem State.keepsReserve.of_pageInSpan {s t : State} (h : s.pageInSpan → s.keepsReserve t) : s.keepsReserve t :=
  ⟨fun k => (h k.pageInSpan).activation k, fun k => (h k.pageInSpan).targets k⟩

/-! ## Plant, causes and the end of a step -/

theorem State.onPlant_steady (s : State) {f : Env → Plant → Plant} (h : ∀ env p, (f env p).held = p.held) :
    s.steady (s.onPlant f) := .of_eq rfl rfl rfl rfl (h _ _) rfl rfl rfl id

theorem State.setPlant_steady (s : State) (p : Plant) (h : p.held = s.plant.held) : s.steady { s with plant := p } :=
  .of_eq rfl rfl rfl rfl h rfl rfl rfl id

theorem State.raise_steady (s : State) (p : Port) (c : Cause) : s.steady (s.raise p c) := s.setPlant_steady _ rfl

theorem State.raiseOn_steady (s : State) (l : List Port) (c : Cause) : s.steady (s.raiseOn l c) :=
  s.setPlant_steady _ (s.plant.held_raiseOn l c)

theorem State.setCauses_steady (s : State) (p : Port) (x : Causes) : s.steady (s.setCauses p x) := s.setPlant_steady _ rfl

theorem State.dispatch_steady (s : State) : s.steady s.dispatch := s.onPlant_steady fun env p => p.held_dispatch env

theorem State.settle_steady (s : State) : s.steady s.settle := .of_view rfl

theorem State.finish_steady (s : State) : s.steady s.finish := s.dispatch_steady.trans (State.settle_steady _)

theorem State.happen_keeps {f : State → State} (h : ∀ s : State, s.keepsReserve (f s)) (s : State) :
    s.keepsReserve (s.happen f) := by
  unfold State.happen
  split
  · exact (h s).trans (f s).finish_steady.keepsReserve
  · exact .refl s
  · exact .refl s

theorem State.recomputeHeadroom_steady (s : State) : s.steady s.recomputeHeadroom :=
  .of_view rfl

theorem State.setInv_steady (s : State) (v : Inventory) : s.steady { s with inv := v } :=
  .of_view rfl

theorem State.setFree_steady (s : State) (n : Nat) : s.steady { s with free := n } :=
  .of_view rfl

/-! ## The Reserve Unit -/

/-- R85: the withheld mark is no part of what is kept. -/
theorem State.judgeWithheld_steady (s : State) (asked : Bool) : s.steady (s.judgeWithheld asked) := by
  rw [State.judgeWithheld_eq]
  refine .of_view ?_
  simp only [State.reserveView]
  split <;> rfl

/-- R84, R94: what re-forming the targets leaves: the pair handed is the pair the state calls for. -/
theorem State.reform_cases (s : State) :
    (s.targets = s.res.handed ∧ s.reform = s)
    ∨ s.reform = { s with
        res := { s.res with bookTarget := s.targets.1, gridTarget := s.targets.2 }
        plant := ({ s.plant with heldBook := s.targets.1, heldGrid := s.targets.2 } : Plant).retarget s.env } := by
  by_cases same : s.targets = s.res.handed
  · exact .inl ⟨same, if_pos same⟩
  · exact .inr (if_neg same)

/-- R84, R94: once the targets are re-formed, the Dispatch Unit holds the pair that the state calls for. -/
theorem State.reform_targetsHanded {s : State} (held : s.plant.held = s.res.handed) (page : s.pageInSpan) :
    s.reform.targetsHanded := by
  rcases s.reform_cases with ⟨same, e⟩ | e <;> rw [e]
  · exact s.targetsHanded_iff.2 ⟨same, held, page⟩
  · exact (State.targetsHanded_iff _).2 ⟨rfl, Plant.held_retarget _ s.env, page⟩

theorem State.reform_activationHeld {s : State} (h : s.activationHeld) : s.reform.activationHeld := by
  rcases s.reform_cases with ⟨-, e⟩ | e <;> rw [e]
  · exact h
  · exact h

/-- R84: a change after which the targets are re-formed. -/
theorem State.reform_keeps {s t : State} (activation : s.activationHeld → t.activationHeld)
    (handed : t.res.handed = s.res.handed) (held : t.plant.held = s.plant.held) (page : s.pageInSpan → t.pageInSpan) :
    s.keepsReserve t.reform where
  activation h := State.reform_activationHeld (activation h)
  targets h := by
    obtain ⟨_, same, span⟩ := s.targetsHanded_iff.1 h
    exact State.reform_targetsHanded (by rw [held, same, handed]) (page span)

/-- R84, R85: a change after which the targets are re-formed and the withheld condition is judged. -/
theorem State.react_keeps {s t : State} (asked : Bool) (activation : s.activationHeld → t.activationHeld)
    (handed : t.res.handed = s.res.handed) (held : t.plant.held = s.plant.held) (page : s.pageInSpan → t.pageInSpan) :
    s.keepsReserve (t.reform.judgeWithheld asked) :=
  (State.reform_keeps activation handed held page).trans (State.judgeWithheld_steady _ asked).keepsReserve

/-- R83, R84: a change of the mode or the inhibits, and the Reserve Unit's reaction. -/
theorem State.sameReserve.reserveReacts {s t : State} (h : s.sameReserve t) (terms : t.active.terms = s.active.terms) :
    s.keepsReserve t.reserveReacts :=
  State.react_keeps false (h.activationHeld terms) h.handed h.held h.page

/-- R78, R80: a value clamped into a holding lies in it. -/
theorem State.clampToHolding_within {s : State} (up : 0 ≤ s.active.up) (dn : 0 ≤ s.active.dn) (v : Int) :
    -s.active.dn ≤ s.clampToHolding v ∧ s.clampToHolding v ≤ s.active.up := by
  simp only [State.clampToHolding]
  omega

/-- R80, R81: 0 lies in every holding. -/
theorem State.clampToHolding_zero {s : State} (up : 0 ≤ s.active.up) (dn : 0 ≤ s.active.dn) : s.clampToHolding 0 = 0 := by
  simp only [State.clampToHolding]
  omega

/-- R77, R80: the unit takes a new holding, whole. -/
theorem State.takeHolding_eq (s : State) :
    s.takeHolding = State.judgeWithheld (State.reform { s with
      res := { s.res with a := s.clampToHolding s.res.a }
      plant := if s.clampToHolding s.res.a = s.res.a then s.plant else s.plant.raise .gr .actClamped }) false := by
  unfold State.takeHolding
  by_cases h : s.clampToHolding s.res.a = s.res.a
  · simp only [if_pos h]
  · simp only [if_neg h]
    rfl

/-- R77, R80: the holding of another slot's values is taken. -/
theorem State.sameReserve.takeHolding {s t : State} (h : s.sameReserve t) (up : 0 ≤ t.active.up) (dn : 0 ≤ t.active.dn) :
    s.keepsReserve t.takeHolding := by
  rw [State.takeHolding_eq]
  refine State.react_keeps false (fun k => ?_) h.handed ?_ h.page
  · obtain ⟨_, lost, page⟩ := s.activationHeld_iff.1 k
    obtain ⟨low, high⟩ := State.clampToHolding_within up dn t.res.a
    refine (State.activationHeld_iff _).2 ⟨⟨up, dn, low, high⟩, fun expired => ?_, h.page page⟩
    have rest : t.res.a = 0 := h.lostAtRest lost expired
    exact (congrArg t.clampToHolding rest).trans (State.clampToHolding_zero up dn)
  · refine .trans ?_ h.held
    simp only []
    split <;> rfl

/-- R78: an activation is taken while the GR link is live. -/
theorem State.takeActivation_keeps (s : State) (v : Int) (live : s.prot.timers.gr ≠ .expired) :
    s.keepsReserve (s.takeActivation v) := by
  rw [State.takeActivation_eq]
  refine State.react_keeps true (fun k => ?_) (by rfl) ?_ id
  · obtain ⟨⟨up, dn, _, _⟩, _, page⟩ := s.activationHeld_iff.1 k
    obtain ⟨low, high⟩ := State.clampToHolding_within up dn v
    exact (State.activationHeld_iff _).2 ⟨⟨up, dn, low, high⟩, fun expired => absurd expired live, page⟩
  · simp only []
    split <;> rfl

/-- R81: the expiry of the GR link timer, and the end of the activation. -/
theorem State.endActivation_keeps {s t : State} (handed : t.res.handed = s.res.handed)
    (held : t.plant.held = s.plant.held) (page : s.pageInSpan → t.pageInSpan) (active : t.active = s.active) :
    s.keepsReserve t.endActivation := by
  refine State.react_keeps false (fun k => ?_) handed held page
  obtain ⟨⟨up, dn, _, _⟩, _, span⟩ := s.activationHeld_iff.1 k
  rw [← active] at up dn
  exact (State.activationHeld_iff _).2 ⟨⟨up, dn, Int.neg_nonpos_of_nonneg dn, up⟩, fun _ => rfl, page span⟩

theorem State.reserveSecond_steady (s : State) : s.steady s.reserveSecond := by
  unfold State.reserveSecond
  refine .ite ?_ (.of_view rfl)
  have raised : s.steady (if s.res.wait = 59 then s.raise .gr .reserveShort else s) :=
    .ite (s.raise_steady _ _) (.refl s)
  exact raised.trans <| .of_view rfl

/-! ## Modes -/

/-- A change of the Protection Unit that leaves the link timers. -/
theorem State.setProt_sameReserve (s : State) (q : Protection) (h : q.timers = s.prot.timers) :
    s.sameReserve { s with prot := q } where
  a := rfl
  handed := rfl
  held := rfl
  lost e := h ▸ e
  page := id

/-- A change of the Protection Unit that leaves the mode, the inhibits and the link timers. -/
theorem State.setProt_steady (s : State) (q : Protection) (h : ({ s with prot := q } : State).reserveView = s.reserveView) :
    s.steady { s with prot := q } := .of_view h

/-- R156: a mode change is handed on. -/
theorem State.sameReserve.handMode {s t : State} (h : s.sameReserve t) (terms : t.active.terms = s.active.terms) :
    s.keepsReserve t.handMode := by
  let u := t.raiseOn [.mk, .gr] .mode
  have waits : t.steady { u with res := { u.res with wait := 0 } } :=
    (t.raiseOn_steady _ _).trans (.of_view rfl)
  have reacted := (h.trans waits.same).reserveReacts (waits.terms.trans terms)
  have event (v : State) : v.steady { v with plant := v.plant.event } := v.setPlant_steady _ rfl
  exact .ite (reacted.trans (event _).keepsReserve) reacted

theorem State.enterTrip_keeps (s : State) : s.keepsReserve s.enterTrip := by
  have tripped := State.onPlant_steady (s.setMode .trip) fun env p => p.held_tripAll env
  have raised := tripped.trans (State.raiseOn_steady _ [.pa, .pb] .trip)
  exact ((s.setProt_sameReserve _ (by rfl)).trans raised.same).handMode raised.terms

theorem State.enterHold_keeps (s : State) : s.keepsReserve s.enterHold := by
  let t : State := { s with prot := { s.prot with mode := .hold, holdMask := s.store.cfg.holdBit } }
  have held := t.onPlant_steady fun env p => p.held_holdTrains env.cfg t.prot.holdMask
  have raised := held.trans (State.raiseOn_steady _ [.pa, .pb] .hold)
  exact ((s.setProt_sameReserve _ (by rfl)).trans raised.same).handMode raised.terms

theorem State.enterNormal_keeps (s : State) : s.keepsReserve s.enterNormal :=
  .ite s.enterTrip_keeps (.ite s.enterHold_keeps ((s.setProt_sameReserve _ (by rfl)).handMode rfl))

theorem State.holdCondition_keeps (s : State) : s.keepsReserve s.holdCondition := .ite s.enterHold_keeps (.refl s)

theorem State.resume_keeps (s : State) : s.keepsReserve s.resume :=
  (s.onPlant_steady fun _ p => p.held_clearCaps).keepsReserve.andThen State.enterNormal_keeps

/-! ## Inhibits, isolation and lines -/

/-- R153: an inhibit latches, in either order of the two reactions. -/
theorem State.latchInhibit_keeps (s : State) (k : Kind) : s.keepsReserve (s.latchInhibit k) := by
  have latched (q : Protection) (h : q.timers = s.prot.timers) (n : Nat) :
      s.sameReserve { ({ s with prot := q } : State).raiseOn [.pa, .pb] .inhibit with free := n } :=
    (s.setProt_sameReserve q h).trans ((State.raiseOn_steady _ _ _).andThen fun t => t.setFree_steady n).same
  have reacts {t : State} (h : s.sameReserve t) (terms : t.active.terms = s.active.terms) (c : Prop) [Decidable c] :
      s.keepsReserve (if c then t.reserveReacts.onPlant fun env p => p.inhibitKind env k
        else (t.onPlant fun env p => p.inhibitKind env k).reserveReacts) := by
    have retired (u : State) := u.onPlant_steady fun env p => p.held_inhibitKind env k
    exact .ite ((h.reserveReacts terms).trans (retired _).keepsReserve)
      ((h.trans (retired t).same).reserveReacts ((retired t).terms.trans terms))
  unfold State.latchInhibit
  refine .ite (.refl s) ?_
  cases k with
  | compress => exact reacts (latched { s.prot with chargeInhibit := true } rfl _) rfl _
  | expand => exact reacts (latched { s.prot with dischargeInhibit := true } rfl _) rfl _

theorem State.clearInhibit_keeps (s : State) (k : Kind) : s.keepsReserve (s.clearInhibit k) := by
  unfold State.clearInhibit
  refine .ite ?_ (.refl s)
  cases k with
  | compress => exact (s.setProt_sameReserve { s.prot with chargeInhibit := false } rfl).reserveReacts rfl
  | expand => exact (s.setProt_sameReserve { s.prot with dischargeInhibit := false } rfl).reserveReacts rfl

theorem State.latchIsolated_steady (s : State) (st : Store) : s.steady (s.latchIsolated st) := by
  refine .ite (.refl s) (.andThen ?_ State.recomputeHeadroom_steady)
  refine .andThen ?_ fun t => t.onPlant_steady fun env p => p.held_isolate env st
  exact (s.setProt_steady _ (by rfl)).andThen fun t => t.raiseOn_steady _ _

theorem State.clearIsolated_steady (s : State) (st : Store) : s.steady (s.clearIsolated st) := by
  refine .ite (.andThen ?_ State.recomputeHeadroom_steady) (.refl s)
  exact (s.setProt_steady _ (by rfl)).andThen fun t => t.onPlant_steady fun env p => p.held_unisolate env st

theorem State.clearLatch_keeps (s : State) (l : Latch) : s.keepsReserve (s.clearLatch l) := by
  cases l with
  | charge => exact s.clearInhibit_keeps .compress
  | discharge => exact s.clearInhibit_keeps .expand
  | isolated st => exact (s.clearIsolated_steady st).keepsReserve

theorem State.tripLine_keeps (s : State) : s.keepsReserve s.tripLine := by
  unfold State.tripLine
  split
  · exact s.enterTrip_keeps
  · exact s.enterTrip_keeps
  · exact (s.raiseOn_steady _ _).keepsReserve
  · exact .refl s

theorem State.protectiveActive_keeps (s : State) (p : Protective) : s.keepsReserve (s.protectiveActive p) := by
  cases p with
  | phi => exact s.latchInhibit_keeps .compress
  | plo => exact s.latchInhibit_keeps .expand
  | ts0 => exact (s.latchIsolated_steady .s0).keepsReserve
  | ts1 => exact (s.latchIsolated_steady .s1).keepsReserve
  | ts2 => exact (s.latchIsolated_steady .s2).keepsReserve
  | est => exact s.tripLine_keeps
  | gof => exact s.tripLine_keeps
  | hrq => exact s.holdCondition_keeps

theorem State.lineChanged_keeps (s : State) (l : Line) : s.keepsReserve (s.lineChanged l) := by
  cases l with
  | prot p => exact .ite (s.protectiveActive_keeps p) (.refl s)
  | feedback t => exact (s.onPlant_steady fun env p => p.held_feedbackMove env t).keepsReserve

theorem State.setLine_keeps (s : State) (l : Line) (active : Bool) (count : Nat) :
    s.keepsReserve (s.setLine l active count) := by
  have set : s.steady { s with prot := { s.prot with lines := s.prot.lines.set l ⟨active, count⟩ } } :=
    s.setProt_steady _ (by rfl)
  exact .ite set.keepsReserve (set.keepsReserve.andThen fun t => t.lineChanged_keeps l)

theorem State.sampleLine_keeps (s : State) (l : Line) (level : Bool) : s.keepsReserve (s.sampleLine l level) :=
  .ite (.ite (s.setLine_keeps _ _ _) (.ite (s.setLine_keeps _ _ _) (s.setLine_keeps _ _ _))) (.refl s)

/-! ## Ports and timers -/

theorem State.modPort_steady (s : State) (p : Port) (f : LinkPort → LinkPort) : s.steady (s.modPort p f) :=
  .of_view rfl

theorem State.setAnswer_steady (s : State) (p : Port) (a : PortAnswer) : s.steady (s.setAnswer p a) := s.modPort_steady p _

/-- R163: a link timer is written, on another link or to run. -/
theorem State.setTimer_steady (s : State) (p : Port) (t : LinkTimer) (h : p ≠ .gr ∨ t ≠ .expired) :
    s.steady (s.setTimer p t) := by
  refine .of_eq rfl rfl rfl rfl rfl rfl rfl rfl fun expired => ?_
  cases p with
  | gr => exact absurd expired (h.resolve_left fun other => other rfl)
  | pa => exact expired
  | pb => exact expired
  | mk => exact expired

theorem State.received_steady (s : State) (p : Port) : s.steady (s.received p) := by
  have reloaded (t : State) : t.steady (t.reloadTimer p) :=
    have timed := t.setTimer_steady p (.running (t.store.cfg.linkLength.get p)) (.inr LinkTimer.noConfusion)
    .ite (timed.andThen fun u => u.setPlant_steady u.plant.event rfl) timed
  exact (s.modPort_steady p _).andThen reloaded

theorem State.losePlantLink_keeps (s : State) (p : Port) : s.keepsReserve (s.losePlantLink p) := by
  have lost : s.steady (match otherPlant p with
      | some q => (s.onPlant fun env r => r.loseTrains env.cfg p).raise q .otherLinkLost
      | none => s.onPlant fun env r => r.loseTrains env.cfg p) := by
    have gone : s.steady (s.onPlant fun env r => r.loseTrains env.cfg p) :=
      s.onPlant_steady fun env r => r.held_loseTrains env.cfg p
    cases otherPlant p with
    | none => exact gone
    | some q => exact gone.trans (State.raise_steady _ _ _)
  exact .ite (lost.keepsReserve.andThen State.holdCondition_keeps) lost.keepsReserve

/-- R60: a page that is gone is out of no span. -/
theorem State.dropPage_steady (s : State) : s.steady s.dropPage :=
  ⟨⟨rfl, rfl, rfl, id, fun _ _ opened => nomatch opened⟩, rfl, rfl, rfl, rfl⟩

theorem State.linkLost_keeps (s : State) (p : Port) : s.keepsReserve (s.linkLost p) := by
  have forgotten (h : p ≠ .gr) : s.steady ((s.setTimer p .expired).forget p) :=
    (s.setTimer_steady p .expired (.inl h)).andThen fun t => t.modPort_steady p fun k => { k with memory := none }
  cases p with
  | pa => exact (forgotten (by decide)).keepsReserve.andThen fun t => t.losePlantLink_keeps .pa
  | pb => exact (forgotten (by decide)).keepsReserve.andThen fun t => t.losePlantLink_keeps .pb
  | mk =>
    refine (forgotten (by decide)).keepsReserve.trans (State.steady.keepsReserve ?_)
    simp only [State.linkLost]
    split
    · exact (State.dropPage_steady _).andThen fun t => t.raise_steady _ _
    · exact .refl _
  | gr => exact State.endActivation_keeps rfl rfl id rfl

theorem State.linkOut_keeps (s : State) (p : Port) : s.keepsReserve (s.linkOut p) := .ite (s.linkLost_keeps p) (.refl s)

end Sys2Proof.Machine
end

section
/-! PROOFS. The reserve through the book and the seconds (R43, R61, R63, R77): writes of slots, the Sweep, the turn of the
interval and the timers that run out. -/

namespace Sys2Proof.Machine

/-! ## Slots -/

/-- R77: the active slot's values, and zeros while no slot is active. -/
theorem State.active_terms (s : State) : s.active.terms =
    if s.tb.synced = true ∧ (s.book.slot s.tb.current).holds s.tb.current = true then
      ((s.book.slot s.tb.current).eff.map Effective.terms).getD (0, 0, 0)
    else (0, 0, 0) := by
  simp only [State.active, ← Bool.and_eq_true]
  cases s.tb.synced && (s.book.slot s.tb.current).holds s.tb.current <;>
    cases (s.book.slot s.tb.current).eff <;> rfl

/-- A write of a slot that the active slot's values do not show. -/
theorem State.setSlot_steady (s : State) (n : Nat) (x : Slot) (h : (s.setSlot n x).active.terms = s.active.terms) :
    s.steady (s.setSlot n x) :=
  ⟨⟨rfl, rfl, rfl, id, id⟩, h, rfl, rfl, rfl⟩

/-- A write of another slot than the active one. -/
theorem State.setSlot_steady_of_ne (s : State) (n : Nat) (x : Slot) (h : s.tb.current % 192 ≠ n % 192) :
    s.steady (s.setSlot n x) := by
  have slot : (s.book.setSlot n x).slot s.tb.current = s.book.slot s.tb.current := by rw [Book.slot_setSlot, if_neg h]
  refine s.setSlot_steady n x ?_
  simp only [State.active_terms, State.setSlot_tb]
  simp only [State.setSlot, slot]

/-- A write that leaves a slot's state, tag and effective values. -/
theorem State.setSlot_steady_of_terms (s : State) (n : Nat) (x : Slot) (holds : ∀ m, x.holds m = (s.book.slot n).holds m)
    (terms : x.eff.map Effective.terms = (s.book.slot n).eff.map Effective.terms) : s.steady (s.setSlot n x) := by
  by_cases other : s.tb.current % 192 ≠ n % 192
  · exact s.setSlot_steady_of_ne n x other
  · have slot : (s.book.setSlot n x).slot s.tb.current = x := by
      rw [Book.slot_setSlot, if_pos (Decidable.not_not.1 other)]
    have old : s.book.slot n = s.book.slot s.tb.current := by simp only [Book.slot, Decidable.not_not.1 other]
    refine s.setSlot_steady n x ?_
    simp only [State.active_terms, State.setSlot_tb]
    simp only [State.setSlot, slot, holds, terms, old]

theorem State.markRisk_steady (s : State) (n : Nat) (r : Option Reason) : s.steady (s.markRisk n r) := by
  have marked := s.setSlot_steady_of_terms n { s.book.slot n with risk := r } (fun _ => rfl) rfl
  exact .ite (.ite (marked.trans (State.raise_steady _ _ _)) marked) (.refl s)

/-- R63: a closed slot is no longer ACTIVE, and keeps its effective values. -/
theorem State.closeSlot_steady (s : State) (n : Nat) : s.steady (s.closeSlot n) := by
  unfold State.closeSlot
  simp only []
  split
  · next active _ => exact s.setSlot_steady_of_terms n _ (fun m => by rw [Slot.holds, Slot.holds, active]; rfl) rfl
  · exact .refl s

/-- R62: a second is added to what the active slot has delivered, not to what it holds. -/
theorem State.accumulate_steady (s : State) : s.steady s.accumulate := by
  unfold State.accumulate
  simp only []
  split
  · next eff => exact s.setSlot_steady_of_terms _ _ (fun _ => rfl) (by rw [eff]; rfl)
  · exact .refl s

/-! ## Activation of a slot -/

/-- R39: the holding of an effective slot is not below 0. -/
theorem State.effective_holding (s : State) (n : Nat) (v : Vals) : 0 ≤ (s.effective n v).up ∧ 0 ≤ (s.effective n v).dn := by
  simp only [State.effective]
  constructor
  · split <;> omega
  · split <;> omega

/-- R61: activating a slot leaves the reserve, but for the values that are now in force. -/
theorem State.activate_sameReserve (s : State) (n : Nat) : s.sameReserve (s.activate n) := by
  have set (x : Slot) : s.sameReserve (s.setSlot n x) := ⟨rfl, rfl, rfl, id, id⟩
  unfold State.activate
  simp only []
  split
  · exact set _
  · exact (set _).trans (State.raise_steady _ _ _).same

/-- R44: a record tagged for an interval holds it, once it is ACTIVE. -/
theorem Book.tagged_tag (b : Book) (n : Nat) : (b.tagged n).tag = n := by
  unfold Book.tagged
  split
  · next holds => exact ((Slot.holds_iff _ n).1 holds).2
  · rfl

/-- R61, R77: the holding of the slot just activated is not below 0. -/
theorem State.activate_holding (s : State) :
    0 ≤ (s.activate s.tb.current).active.up ∧ 0 ≤ (s.activate s.tb.current).active.dn := by
  let x := s.book.tagged s.tb.current
  let f := s.effective s.tb.current x.vals
  let t := s.setSlot s.tb.current { x with state := .active, eff := some f, deviation := none }
  have slots : (s.activate s.tb.current).active = t.active := by
    unfold State.activate
    simp only []
    split <;> rfl
  have slot : t.book.slot s.tb.current = { x with state := .active, eff := some f, deviation := none } := by
    simp only [t, State.setSlot, Book.slot_setSlot, if_true]
  have holds : (t.book.slot s.tb.current).holds s.tb.current = true := by
    rw [slot, Slot.holds_iff]
    exact ⟨SlotState.noConfusion, s.book.tagged_tag _⟩
  have terms : t.active.terms = if s.tb.synced = true then f.terms else (0, 0, 0) := by
    have tb : t.tb = s.tb := rfl
    rw [State.active_terms, tb, holds, slot]
    simp only [and_true]
    rfl
  rw [slots]
  split at terms
  · obtain ⟨_, up, dn⟩ := Effective.terms_inj terms
    rw [up, dn]
    exact s.effective_holding _ _
  · obtain ⟨_, up, dn⟩ := Effective.terms_inj (g := ⟨0, 0, 0, 0, 0, 0⟩) terms
    rw [up, dn]
    exact ⟨Int.le_refl 0, Int.le_refl 0⟩

/-! ## The turn of the interval -/

theorem State.standingLoss_steady (s : State) : s.steady s.standingLoss := .of_view rfl

/-- R43: the interval moves on by one, and the book's span with it. -/
theorem State.nextInterval_sameReserve (s : State) :
    s.sameReserve { s with tb := { s.tb with current := s.tb.current + 1, second := 0 } } where
  a := rfl
  handed := rfl
  held := rfl
  lost := id
  page h g opened := by
    obtain ⟨synced, span⟩ := h g opened
    exact ⟨synced, by simp only []; omega⟩

/-- R43, R77: the new slot is activated, and the Reserve Unit takes its holding; standing loss falls where the free choice has
it. -/
theorem State.turn_keeps (s : State) : s.keepsReserve s.turn := by
  have loss (c : Prop) [Decidable c] (t : State) : t.steady (if c then t.standingLoss else t) :=
    .ite t.standingLoss_steady (.refl t)
  let closed := ({ s with free := s.free + 1 } : State).closeSlot s.tb.current
  let next : State := { closed with tb := { closed.tb with current := closed.tb.current + 1, second := 0 } }
  have turned : s.sameReserve next :=
    ((s.setFree_steady _).andThen fun t => t.closeSlot_steady _).same.trans closed.nextInterval_sameReserve
  let due := if Config.lossPlace s.free = 0 then next.standingLoss else next
  let active := due.activate due.tb.current
  let opened := if Config.lossPlace s.free = 1 then active.standingLoss else active
  have after : active.steady opened := loss _ active
  obtain ⟨_, up, dn⟩ := Effective.terms_inj after.terms
  obtain ⟨upActive, dnActive⟩ : 0 ≤ active.active.up ∧ 0 ≤ active.active.dn := due.activate_holding
  have reserve : s.sameReserve opened :=
    ((turned.trans (loss _ next).same).trans (due.activate_sameReserve _)).trans after.same
  have taken : s.keepsReserve opened.takeHolding := reserve.takeHolding (up ▸ upActive) (dn ▸ dnActive)
  exact taken.trans (loss (Config.lossPlace s.free = 2) opened.takeHolding).keepsReserve

/-! ## The Sweep -/

theorem State.setSweep_steady (s : State) (w : Sweep) : s.steady { s with sweep := w } :=
  .of_view rfl

theorem State.sweepStart_steady (s : State) : s.steady s.sweepStart := s.setSweep_steady _

theorem State.sweepBegin_steady (s : State) : s.steady s.sweepBegin := .ite (s.setSweep_steady _) (.refl s)

theorem State.sweepStep_steady (s : State) : s.steady s.sweepStep := by
  rw [State.sweepStep_eq]
  exact (s.markRisk_steady _ _).andThen fun t => t.setSweep_steady _

theorem State.sweepSecond_steady (s : State) : s.steady s.sweepSecond :=
  .ite (.refl s) (.ite s.sweepStep_steady s.sweepStart_steady)

theorem State.sweepTurn_steady (s : State) : s.steady s.sweepTurn := .ite s.sweepStart_steady (.refl s)

theorem State.sweepAtTurn_steady (s : State) : s.steady s.sweepAtTurn :=
  .ite (s.sweepTurn_steady.andThen State.sweepSecond_steady) (s.sweepSecond_steady.andThen State.sweepTurn_steady)

/-! ## The Timebase second -/

/-- R40, R42: the second within the interval moves. -/
theorem State.trim_steady (s : State) (n : Nat) : s.steady (s.trim n) :=
  ⟨⟨rfl, rfl, rfl, id, id⟩, rfl, rfl, rfl, rfl⟩

theorem State.bookSecond_keeps (s : State) : s.keepsReserve s.bookSecond := by
  refine s.accumulate_steady.keepsReserve.trans (.ite ?_ ?_)
  · exact ((State.trim_steady _ _).andThen State.sweepSecond_steady).keepsReserve
  · exact (State.turn_keeps _).andThen fun t => t.sweepAtTurn_steady.keepsReserve

/-- R163: no second makes a link timer EXPIRED: its running out is an event of its own. -/
theorem LinkTimer.second_expired {t : LinkTimer} (h : t.second = .expired) : t = .expired := by
  cases t with
  | notStarted => cases h
  | running n => cases h
  | expired => rfl

theorem State.tickTimers_steady (s : State) : s.steady s.tickTimers :=
  .of_eq (by simp) (by simp) (by simp) (by simp) s.plant.held_second (by simp) (by simp) (by simp)
    LinkTimer.second_expired

theorem State.secondBody_keeps (s : State) : s.keepsReserve s.secondBody := by
  refine s.tickTimers_steady.keepsReserve.trans (.ite ?_ (.refl _))
  exact (State.reserveSecond_steady _).keepsReserve.andThen State.bookSecond_keeps

theorem State.entryDue_steady (s : State) (e : Entry) : s.steady (s.entryDue e) :=
  (s.onPlant_steady fun env p => p.held_budgetOut env e).andThen State.dispatch_steady

theorem State.trainDue_steady (s : State) (t : Train) : s.steady (s.trainDue t) := by
  unfold State.trainDue
  refine .andThen (.andThen ?_ fun u => u.onPlant_steady fun env p => p.held_feedbackOut env t) State.dispatch_steady
  refine .andThen (.andThen ?_ fun u => u.onPlant_steady fun env p => p.held_inhibitOut env t) State.dispatch_steady
  refine .andThen (.andThen ?_ fun u => u.onPlant_steady fun env p => p.held_stopWindowOut env t) State.dispatch_steady
  exact (s.onPlant_steady fun env p => p.held_startWindowOut env t).andThen State.dispatch_steady

theorem State.portDue_keeps (s : State) (p : Port) : s.keepsReserve (s.portDue p) :=
  (s.linkOut_keeps p).andThen fun t => t.dispatch_steady.keepsReserve

theorem State.takeDue_keeps (s : State) : s.keepsReserve s.takeDue :=
  (State.steady.foldl State.entryDue_steady entryList s).keepsReserve.trans <|
    (State.steady.foldl State.trainDue_steady trainList _).keepsReserve.trans
      (State.keepsReserve.foldl State.portDue_keeps portList _)

theorem State.timebaseSecond_keeps (s : State) : s.keepsReserve s.timebaseSecond :=
  (s.takeDue_keeps.andThen fun t => t.settle_steady.keepsReserve).andThen State.secondBody_keeps

theorem State.secondWith_keeps (comes : State → Bool) (s : State) : s.keepsReserve (s.secondWith comes) :=
  .ite s.timebaseSecond_keeps (.refl s)

/-! ## The accounting second -/

theorem State.accountingSecond_keeps_reserve (s : State) : s.keepsReserve s.accountingSecond := by
  unfold State.accountingSecond
  refine .andThen ?_ fun t => (t.onPlant_steady fun env p => p.held_evaluateGates env).keepsReserve
  refine .andThen ?_ fun t => t.recomputeHeadroom_steady.keepsReserve
  refine .trans ?_ (.ite (State.holdCondition_keeps _) (.refl _))
  refine .trans ?_ (State.steady.ite (State.raiseOn_steady _ _ _) (.refl _)).keepsReserve
  refine .trans ?_ (State.steady.ite (State.raiseOn_steady _ _ _) (.refl _)).keepsReserve
  exact (s.setInv_steady _).keepsReserve

end Sys2Proof.Machine
end

section
/-! PROOFS. The reserve through the requests of the catalogue, row by row, and through every command; and the statement
that every step keeps it (R79 to R84, R94). -/

namespace Sys2Proof.Machine

/-! ## Requests of the plant links -/

theorem State.takeReport_steady (s : State) (t : Train) (r : Reported) (power kg : Nat) :
    s.steady (s.takeReport t r power kg) :=
  (s.setInv_steady _).andThen fun u => u.onPlant_steady fun env p => p.held_report env t r power

theorem trainReportBody_keeps (p : Port) (vs : List Int) (s : State) : s.keepsReserve (trainReportBody p vs s).state := by
  unfold trainReportBody
  split
  · split
    · split
      · exact .refl s
      · split
        · exact (s.takeReport_steady _ _ _ _).keepsReserve
        · exact .refl s
    · exact .refl s
  · exact .refl s

theorem submitServiceBody_keeps (p : Port) (vs : List Int) (s : State) :
    s.keepsReserve (submitServiceBody p vs s).state := by
  unfold submitServiceBody
  split
  · exact .refl s
  · split
    · exact .refl s
    · split
      · exact .refl s
      · split
        · exact .refl s
        · split
          · exact .refl s
          · next created => exact (s.setPlant_steady _ (Plant.held_create created)).keepsReserve

theorem cancelServiceBody_keeps (p : Port) (vs : List Int) (s : State) :
    s.keepsReserve (cancelServiceBody p vs s).state := by
  unfold cancelServiceBody
  split
  · split
    · exact .refl s
    · split
      · exact (s.onPlant_steady fun env q => q.held_retireAll env _).keepsReserve
      · exact .refl s
  · exact .refl s

theorem queryOrderBody_state (p : Port) (vs : List Int) (s : State) : (queryOrderBody p vs s).state = s := by
  unfold queryOrderBody
  split
  · split
    · rfl
    · split <;> rfl
  · rfl

theorem State.seed_steady (s : State) (kg : Nat) (heat : PerStore Nat) : s.steady (s.seed kg heat) := by
  refine .andThen (.trans ?_ (.ite (State.raiseOn_steady _ _ _) (.refl _))) State.sweepBegin_steady
  exact (s.setInv_steady _).andThen State.recomputeHeadroom_steady

theorem seedInventoryBody_keeps (p : Port) (vs : List Int) (s : State) :
    s.keepsReserve (seedInventoryBody p vs s).state := by
  unfold seedInventoryBody
  split
  · split
    · exact (s.seed_steady _ _).keepsReserve
    · exact .refl s
  · exact .refl s

theorem clearTrainBody_keeps (p : Port) (vs : List Int) (s : State) : s.keepsReserve (clearTrainBody p vs s).state := by
  unfold clearTrainBody
  split
  · split
    · exact .refl s
    · split
      · exact .refl s
      · split
        · exact .refl s
        · exact (s.onPlant_steady fun env q => q.held_clearFault env _).keepsReserve
  · exact .refl s

/-- R145: a handover writes an owner and retires orders. -/
theorem State.handOver_steady (s : State) (p : Port) (t : Train) : s.steady (s.handOver p t) := by
  have written : s.steady (s.writeOwner t (ownerOfPort p)) := .of_view rfl
  exact written.andThen fun u => u.onPlant_steady fun env q => q.held_retireAll env _

theorem handoverBody_keeps (p : Port) (vs : List Int) (s : State) : s.keepsReserve (handoverBody p vs s).state := by
  unfold handoverBody
  split
  · split
    · exact .refl s
    · split
      · exact .refl s
      · split
        · exact .refl s
        · split
          · exact .refl s
          · exact (s.handOver_steady p _).keepsReserve
  · exact .refl s

/-! ## Modes, inhibits and windows -/

theorem holdBody_keeps (p : Port) (vs : List Int) (s : State) : s.keepsReserve (holdBody p vs s).state := by
  unfold holdBody
  split
  · exact s.enterHold_keeps
  all_goals exact .refl s

theorem resumeBody_keeps (p : Port) (vs : List Int) (s : State) : s.keepsReserve (resumeBody p vs s).state := by
  unfold resumeBody
  split
  · exact s.resume_keeps
  · exact .refl s

theorem resetTripBody_keeps (p : Port) (vs : List Int) (s : State) : s.keepsReserve (resetTripBody p vs s).state := by
  unfold resetTripBody
  split
  · exact s.enterHold_keeps
  · exact .refl s

theorem clearInhibitBody_keeps (p : Port) (vs : List Int) (s : State) :
    s.keepsReserve (clearInhibitBody p vs s).state := by
  unfold clearInhibitBody
  split
  · split
    · exact .refl s
    · split
      · exact .refl s
      · exact s.clearLatch_keeps _
  · exact .refl s

/-- A change of the blackout windows. -/
theorem State.setWindows_steady (s : State) (w : Vector Window 4) : s.steady { s with book := { s.book with windows := w } } :=
  ⟨⟨rfl, rfl, rfl, id, id⟩, congrArg Effective.terms (State.active_congr (by rfl) (by rfl)), rfl, rfl, rfl⟩

theorem setWindowBody_keeps (p : Port) (vs : List Int) (s : State) : s.keepsReserve (setWindowBody p vs s).state := by
  unfold setWindowBody
  split
  · split
    · exact .refl s
    · split
      · exact .refl s
      · split
        · exact .refl s
        · exact (s.setWindows_steady _).keepsReserve
  · exact .refl s

/-- R182, R88: a warm restart ends the activation, closes the page, and hands its targets to the emptied Dispatch Unit. -/
theorem State.warmRestart_keeps (s : State) : s.keepsReserve s.warmRestart where
  activation h := by
    obtain ⟨⟨up, dn, _, _⟩, _, _⟩ := s.activationHeld_iff.1 h
    have active : s.warmClear.active = s.active := State.active_congr rfl rfl
    refine State.reform_activationHeld (s.warmClear.activationHeld_iff.2 ⟨?_, fun _ => rfl, fun _ opened => nomatch opened⟩)
    rw [State.withinHolding, active]
    exact ⟨up, dn, Int.neg_nonpos_of_nonneg dn, up⟩
  targets _ := State.reform_targetsHanded rfl fun _ opened => nomatch opened

theorem restartBody_keeps (p : Port) (vs : List Int) (s : State) : s.keepsReserve (restartBody p vs s).state := by
  unfold restartBody
  split
  · exact .refl s
  all_goals exact s.warmRestart_keeps

/-! ## The Configuration Store -/

theorem State.setStore_steady (s : State) (c : ConfigStore) : s.steady { s with store := c } :=
  .of_view rfl

theorem State.restartCount_steady (s : State) (l : Line) : s.steady (s.restartCount l) :=
  s.setProt_steady _ (by rfl)

/-- R176: no item is one that the reserve reads. -/
theorem State.itemWritten_keeps (s : State) (code i : Nat) : s.keepsReserve (s.itemWritten code i) := by
  unfold State.itemWritten
  split
  · exact (s.setInv_steady _).keepsReserve
  · exact .ite (s.onPlant_steady fun _ p => p.held_toOffline _).keepsReserve (.refl s)
  · exact (s.restartCount_steady _).keepsReserve
  · exact (s.restartCount_steady _).keepsReserve
  · exact .ite (s.restartCount_steady _).keepsReserve (s.setLine_keeps _ _ _)
  · exact (State.steady.foldl State.restartCount_steady _ s).keepsReserve
  · exact .refl s

theorem State.writeItem_keeps (s : State) (code i v : Nat) : s.keepsReserve (s.writeItem code i v) := by
  refine .ite (.refl s) (.andThen ?_ fun t => t.recomputeHeadroom_steady.keepsReserve)
  exact (s.setStore_steady _).keepsReserve.andThen fun t => t.itemWritten_keeps code i

theorem configWriteBody_keeps (p : Port) (vs : List Int) (s : State) : s.keepsReserve (configWriteBody p vs s).state := by
  unfold configWriteBody
  split
  · split
    · exact .refl s
    · split
      · exact s.writeItem_keeps _ _ _
      · exact .refl s
  · exact .refl s

theorem configReadBody_state (p : Port) (vs : List Int) (s : State) : (configReadBody p vs s).state = s := by
  unfold configReadBody
  split
  · split
    · rfl
    · split <;> rfl
  · rfl

theorem storeConfigBody_keeps (p : Port) (vs : List Int) (s : State) : s.keepsReserve (storeConfigBody p vs s).state := by
  unfold storeConfigBody
  split
  · exact (s.setStore_steady _).keepsReserve
  · exact .refl s

theorem startPlantBody_keeps (p : Port) (vs : List Int) (s : State) : s.keepsReserve (startPlantBody p vs s).state := by
  unfold startPlantBody
  split
  · exact .refl s
  · split
    · exact .refl s
    · split
      · exact .refl s
      · exact s.enterNormal_keeps

/-! ## The time -/

/-- R41, R77: the first SYNC_TIME activates a slot; no page is open before it (R57). -/
theorem State.firstSync_keeps (s : State) (n sec : Nat) (h : s.tb.synced = false) : s.keepsReserve (s.firstSync n sec) := by
  let t : State := { s with tb := ⟨true, n, sec⟩ }
  have moved : s.sameReserve t := by
    refine ⟨rfl, rfl, rfl, id, fun span g opened => ?_⟩
    obtain ⟨synced, _⟩ := span g opened
    rw [h] at synced
    cases synced
  obtain ⟨up, dn⟩ := t.activate_holding
  have taken : s.keepsReserve (t.activate n).takeHolding := (moved.trans (t.activate_sameReserve n)).takeHolding up dn
  exact taken.andThen fun u => u.sweepBegin_steady.keepsReserve

theorem syncTimeBody_keeps (p : Port) (vs : List Int) (s : State) : s.keepsReserve (syncTimeBody p vs s).state := by
  unfold syncTimeBody
  split
  · split
    · split
      · exact .refl s
      · split
        · exact .refl s
        · exact (s.trim_steady _).keepsReserve
    · next unsynced =>
      split
      · exact .refl s
      · exact s.firstSync_keeps _ _ (by simpa using unsynced)
  · exact .refl s

/-! ## Market changes -/

theorem querySlotBody_state (p : Port) (vs : List Int) (s : State) : (querySlotBody p vs s).state = s := by
  unfold querySlotBody
  split
  · split
    · rfl
    · split <;> rfl
  · rfl

/-- R44, R48: the slots after the active one, as far as the book goes. -/
def State.writable (s : State) (n : Nat) : Prop := s.tb.current < n ∧ n ≤ s.tb.current + 191

/-- R45: of the intervals in the book's span the active one has its record to itself. -/
theorem State.writeSlot_steady (s : State) (n : Nat) (v : Vals) (h : s.writable n) : s.steady (s.writeSlot n v) := by
  obtain ⟨after, span⟩ := h
  exact s.setSlot_steady_of_ne n _ (by omega)

/-- R47, Table 3-4 checks 3 and 4: an accepted change is to a slot after the active one. -/
theorem State.ruleChange_accepted {s : State} {n : Nat} {v : Vals} {ranges limited : Bool}
    (h : s.ruleChange n v ranges limited = .accepted) : s.writable n := by
  unfold State.ruleChange at h
  split at h
  · cases h
  · split at h
    · cases h
    · split at h
      · cases h
      · next span =>
        split at h
        · cases h
        · next late =>
          rw [State.leadEnd] at late
          exact ⟨by omega, Nat.not_lt.1 span⟩

theorem State.hitWindows_steady (s : State) (n : Nat) (v : Vals) : s.steady (s.hitWindows n v) := by
  have hit (w : Vector Window 4) := s.setWindows_steady w
  exact .ite ((hit _).andThen fun t => t.raiseOn_steady _ _) (hit _)

theorem State.applyRuling_steady (s : State) (n : Nat) (v : Vals) (x : Ruling) (h : x = .accepted → s.writable n) :
    s.steady (s.applyRuling n v x) := by
  cases x with
  | accepted => exact s.writeSlot_steady n v (h rfl)
  | refused st => exact .refl s
  | blackout w => exact s.hitWindows_steady n v
  | infeasible m r => exact .refl s

theorem commitBody_keeps (p : Port) (vs : List Int) (s : State) : s.keepsReserve (commitBody p vs s).state := by
  unfold commitBody
  split
  · exact (s.applyRuling_steady _ _ _ State.ruleChange_accepted).keepsReserve
  · exact .refl s

theorem adjustBody_keeps (p : Port) (vs : List Int) (s : State) : s.keepsReserve (adjustBody p vs s).state := by
  unfold adjustBody
  split
  · simp only []
    split
    · exact (s.applyRuling_steady _ _ _ State.ruleChange_accepted).keepsReserve
    · exact .refl s
  · exact .refl s

theorem withdrawBody_keeps (p : Port) (vs : List Int) (s : State) : s.keepsReserve (withdrawBody p vs s).state := by
  unfold withdrawBody
  split
  · exact (s.applyRuling_steady _ _ _ State.ruleChange_accepted).keepsReserve
  · exact .refl s

/-! ## Day pages -/

/-- R57, R58: a page opened or staged lies within the span. -/
theorem State.setPage_steady (s : State) (g : Page) (synced : s.tb.synced = true)
    (span : 96 * g.day + 95 ≤ s.tb.current + 191) : s.steady { s with book := { s.book with page := some g } } :=
  ⟨⟨rfl, rfl, rfl, id, fun _ x opened => Option.some.inj opened ▸ ⟨synced, span⟩⟩,
    congrArg Effective.terms (State.active_congr (by rfl) (by rfl)), rfl, rfl, rfl⟩

theorem openDayBody_keeps (p : Port) (vs : List Int) (s : State) : s.keepsReserve (openDayBody p vs s).state := by
  unfold openDayBody
  split
  · split
    · exact .refl s
    · next synced =>
      split
      · exact .refl s
      · split
        · exact .refl s
        · split
          · exact .refl s
          · next span => exact (s.setPage_steady _ (by simpa using synced) (Nat.not_lt.1 span)).keepsReserve
  · exact .refl s

theorem stageBody_keeps (p : Port) (vs : List Int) (s : State) : s.keepsReserve (stageBody p vs s).state := by
  unfold stageBody
  split
  · simp only []
    split
    · exact .refl s
    · next g opened =>
      split
      · exact .refl s
      · split
        · exact .refl s
        · split
          · exact (s.hitWindows_steady _ _).keepsReserve
          · refine .of_pageInSpan fun page => ?_
            obtain ⟨synced, span⟩ := page g opened
            exact (s.setPage_steady (g.staged _ _) synced span).keepsReserve
  · exact .refl s

/-- R59: the changes of a page that is closed, slot by slot. -/
theorem State.writeChanges_steady (s : State) (l : List (Nat × Vals)) (h : ∀ x ∈ l, s.writable x.1) :
    s.steady (s.writeChanges l) := by
  refine .andThen ?_ State.dropPage_steady
  induction l generalizing s with
  | nil => exact .refl s
  | cons x l ih =>
    have first := s.writeSlot_steady x.1 x.2 (h x List.mem_cons_self)
    exact first.trans (ih (s.writeSlot x.1 x.2) fun y member => h y (List.mem_cons_of_mem x member))

/-- R57, R59 step 2: what a close accepts are changes to slots after the active one, in the page's day. -/
theorem State.ruleClose_accepted {s : State} {skipped : Nat} {changes : List (Nat × Vals)} (page : s.pageInSpan)
    (h : s.ruleClose = .accepted skipped changes) : ∀ x ∈ changes, s.writable x.1 := by
  unfold State.ruleClose at h
  split at h
  · cases h
  · next g opened =>
    obtain ⟨_, span⟩ := page g opened
    simp only [] at h
    split at h
    · cases h
    · split at h
      · cases h
      · cases h
        intro x member
        obtain ⟨differs, late⟩ := List.mem_filter.1 member
        obtain ⟨listed, _⟩ := List.mem_filter.1 differs
        obtain ⟨i, small, rfl⟩ := List.mem_map.1 listed
        have offset : i < 96 := List.mem_range.1 small
        have lead : s.leadEnd < 96 * g.day + i := of_decide_eq_true late
        rw [State.leadEnd] at lead
        exact ⟨by simp only []; omega, by simp only []; omega⟩

theorem closeDayBody_keeps (p : Port) (vs : List Int) (s : State) : s.keepsReserve (closeDayBody p vs s).state := by
  unfold closeDayBody
  split
  · unfold closeAccept
    split
    · exact .refl s
    · exact .refl s
    · exact .refl s
    · next ruled =>
      exact .of_pageInSpan fun page => (s.writeChanges_steady _ (State.ruleClose_accepted page ruled)).keepsReserve
  · unfold closeDiscard
    split
    · exact .refl s
    · exact s.dropPage_steady.keepsReserve
  · exact .refl s

theorem sweepRestartBody_keeps (p : Port) (vs : List Int) (s : State) :
    s.keepsReserve (sweepRestartBody p vs s).state := by
  unfold sweepRestartBody
  split
  · exact .refl s
  · split
    · exact .refl s
    · exact s.sweepStart_steady.keepsReserve

/-! ## The grid link and the causes -/

/-- R78: the frame of an ACTIVATE has reloaded the GR link timer (R163). -/
theorem activateBody_keeps (p : Port) (vs : List Int) (s : State) (grid : isGrid p = true)
    (live : s.prot.timers.get p ≠ .expired) : s.keepsReserve (activateBody p vs s).state := by
  have gr : p = .gr := eq_of_beq grid
  subst gr
  unfold activateBody
  split
  · split
    · exact .refl s
    · split
      · exact .refl s
      · exact s.takeActivation_keeps _ live
  · exact .refl s

theorem queryActiveBody_state (p : Port) (vs : List Int) (s : State) : (queryActiveBody p vs s).state = s := by
  unfold queryActiveBody
  split <;> rfl

theorem ackCausesBody_keeps (p : Port) (vs : List Int) (s : State) : s.keepsReserve (ackCausesBody p vs s).state := by
  unfold ackCausesBody
  split
  · simp only []
    split
    · exact .refl s
    · have cleared (t : State) : t.steady t.clearHits := t.setWindows_steady _
      exact ((s.setCauses_steady _ _).trans (.ite (cleared _) (.refl _))).keepsReserve
  · exact .refl s

theorem setCauseEnableBody_keeps (p : Port) (vs : List Int) (s : State) :
    s.keepsReserve (setCauseEnableBody p vs s).state := by
  unfold setCauseEnableBody
  split
  · simp only []
    split
    · exact .refl s
    · exact (s.setCauses_steady _ _).keepsReserve
  · exact .refl s

/-! ## Frames -/

/-- Every row of the catalogue (Table 10-4), from a link whose timer runs. -/
theorem catalogue_keepsReserve : ∀ r ∈ catalogue, ∀ (p : Port) (vs : List Int) (s : State), r.permitted p = true →
    s.prot.timers.get p ≠ .expired → s.keepsReserve (r.body p vs s).state := by
  have keeps {r : RequestRow} (h : ∀ p vs (s : State), s.keepsReserve (r.body p vs s).state) (p : Port) (vs : List Int)
      (s : State) (_ : r.permitted p = true) (_ : s.prot.timers.get p ≠ .expired) : s.keepsReserve (r.body p vs s).state :=
    h p vs s
  have query {r : RequestRow} (h : ∀ p vs (s : State), (r.body p vs s).state = s) (p : Port) (vs : List Int)
      (s : State) (_ : r.permitted p = true) (_ : s.prot.timers.get p ≠ .expired) : s.keepsReserve (r.body p vs s).state :=
    (h p vs s).symm ▸ .refl s
  simp only [catalogue, List.cons_append, List.nil_append, List.forall_mem_cons]
  exact ⟨query fun _ _ _ => rfl, keeps trainReportBody_keeps, keeps submitServiceBody_keeps, keeps cancelServiceBody_keeps,
    query queryOrderBody_state, query fun _ _ _ => rfl, keeps seedInventoryBody_keeps, keeps holdBody_keeps,
    keeps resumeBody_keeps, keeps resetTripBody_keeps, keeps clearTrainBody_keeps, keeps clearInhibitBody_keeps,
    keeps handoverBody_keeps, keeps setWindowBody_keeps, keeps configWriteBody_keeps, query configReadBody_state,
    keeps storeConfigBody_keeps, keeps startPlantBody_keeps, keeps restartBody_keeps, keeps syncTimeBody_keeps,
    query querySlotBody_state, keeps commitBody_keeps, keeps adjustBody_keeps, keeps withdrawBody_keeps,
    keeps openDayBody_keeps, keeps stageBody_keeps, keeps closeDayBody_keeps, query fun _ _ _ => rfl,
    keeps sweepRestartBody_keeps, query fun _ _ _ => rfl, activateBody_keeps, query queryActiveBody_state,
    keeps ackCausesBody_keeps, keeps setCauseEnableBody_keeps, fun _ h => absurd h List.not_mem_nil⟩

theorem takeCode_keepsReserve (code : Byte) (f : Frame) (s : State) (live : s.prot.timers.get f.port ≠ .expired) :
    s.keepsReserve (takeCode code f s).state := by
  unfold takeCode
  split
  · next r found =>
    unfold RequestRow.take
    split
    · next permitted =>
      split
      · exact catalogue_keepsReserve r (List.mem_of_find?_eq_some found) f.port _ s permitted live
      · exact .refl s
    · exact .refl s
  · exact .refl s

/-- R163, R166, R169: a frame of any code, taken or not. -/
theorem State.serve_keepsReserve (s : State) (code : Byte) (f : Frame) :
    s.keepsReserve (s.serve code f (takeCode code f)) := by
  have received := (s.received_steady f.port).keepsReserve
  have ends (t : State) (a : PortAnswer) : t.keepsReserve (t.finish.setAnswer f.port a) :=
    (t.finish_steady.andThen fun u => u.setAnswer_steady f.port a).keepsReserve
  have live : (s.received f.port).prot.timers.get f.port ≠ .expired := by
    rw [State.received_timers, PerPort.get_set_self]
    exact LinkTimer.noConfusion
  unfold State.serve
  split
  · exact .refl s
  · exact .refl s
  · split
    · exact (s.modPort_steady _ _).keepsReserve
    · split
      · exact received.trans (ends _ _)
      · exact (received.trans (takeCode_keepsReserve code f _ live)).trans (ends _ _)

theorem State.receiveChar_keepsReserve (p : Port) (s : State) (c : RxChar) : s.keepsReserve (s.receiveChar p c) := by
  have ported := s.modPort_steady p fun _ => ((s.port p).rxChar c).port
  unfold State.receiveChar
  simp only []
  split
  · exact ported.keepsReserve
  · exact ported.keepsReserve.andThen fun t => t.serve_keepsReserve _ _

/-! ## Events -/

theorem State.imageWritten_steady (s : State) : s.steady s.imageWritten := by
  have sent (p : Port) (t : State) : t.steady (t.sendAwaited p) := by
    unfold State.sendAwaited
    split
    · exact t.setAnswer_steady _ _
    · exact .refl t
    · exact .refl t
  unfold State.imageWritten
  split
  · exact ((s.setStore_steady _).andThen State.finish_steady).andThen (sent _)
  · exact .refl s

/-- R180: the lines released and the supply. -/
theorem State.hold_steady (s : State) : s.steady s.hold := .of_view rfl

/-- Every event but a cold reset. -/
theorem exec_event_keepsReserve {i : Instr} {s t : State} (h : i.request? = none) (cold : i ≠ .coldReset)
    (e : exec i s = .next t) : s.keepsReserve t := by
  have onPlant {f : Env → Plant → Plant} (held : ∀ env p, (f env p).held = p.held) :
      s.keepsReserve (s.happen fun t => t.onPlant f) :=
    State.happen_keeps (fun t => (t.onPlant_steady held).keepsReserve) s
  cases i with
  | imageWriteComplete =>
    simp only [exec, execImageWriteComplete] at e
    split at e <;> cases e
    · exact s.imageWritten_steady.keepsReserve
    · exact .refl s
    · exact .refl s
  | frameDiscarded p chars =>
    simp only [exec, execFrameDiscarded] at e
    split at e <;> cases e
    · exact .foldl (State.receiveChar_keepsReserve p) chars s
    · exact .refl s
    · exact .refl s
  | rxIdleTimeout p =>
    simp only [exec, execRxIdleTimeout] at e
    split at e <;> cases e
    · exact (s.modPort_steady p _).keepsReserve
    · exact .refl s
    · exact .refl s
  | answerSent p =>
    simp only [exec, execAnswerSent] at e
    split at e <;> cases e
    · exact (s.modPort_steady p _).keepsReserve
    · exact .refl s
    · exact .refl s
  | wellheadSample wa wb => cases e; exact State.happen_keeps (fun t => (t.setInv_steady _).keepsReserve) s
  | qualifierSample l level => cases e; exact State.happen_keeps (fun t => t.sampleLine_keeps l level) s
  | timebaseSecond => cases e; exact State.happen_keeps State.timebaseSecond_keeps s
  | intervalTurn => cases e; exact State.happen_keeps (State.secondWith_keeps _) s
  | accountingSecond => cases e; exact State.happen_keeps State.accountingSecond_keeps_reserve s
  | sweepCycleComplete => cases e; exact State.happen_keeps (State.secondWith_keeps _) s
  | placementWaitExpiry => cases e; exact State.happen_keeps (State.secondWith_keeps _) s
  | budgetEnd entry => cases e; exact onPlant fun env p => p.held_budgetOut env entry
  | startWindowExpiry tr => cases e; exact onPlant fun env p => p.held_startWindowOut env tr
  | stopWindowExpiry tr => cases e; exact onPlant fun env p => p.held_stopWindowOut env tr
  | restartInhibitExpiry tr => cases e; exact onPlant fun env p => p.held_inhibitOut env tr
  | feedbackTimerExpiry tr => cases e; exact onPlant fun env p => p.held_feedbackOut env tr
  | linkTimerExpiry p => cases e; exact State.happen_keeps (fun t => t.linkOut_keeps p) s
  | rstnLow =>
    simp only [exec, execRstnLow] at e
    split at e <;> cases e
    · exact .refl s
    · exact s.hold_steady.keepsReserve
    · exact s.hold_steady.keepsReserve
  | lossOfPower =>
    cases e
    have off : s.hold.steady { s.hold with supply := .off, store := s.store.cut } :=
      .of_view rfl
    exact (s.hold_steady.trans off).keepsReserve
  | coldReset => exact absurd rfl cold
  | _ => cases h

/-! ## Cold reset and the step -/

/-- R88, R180: after a cold reset no slot is active, the activation is 0, and no target is handed or held. -/
theorem State.cold_keepsReserve (s : State) (l : List Instr) (c : ConfigStore) (n : Nat) :
    s.keepsReserve (State.cold l c n) where
  activation _ := by
    refine (State.activationHeld_iff _).2 ⟨?_, fun _ => rfl, fun _ opened => nomatch opened⟩
    exact ⟨Int.le_refl 0, Int.le_refl 0, Int.le_refl 0, Int.le_refl 0⟩
  targets _ := (State.targetsHanded_iff _).2 ⟨rfl, rfl, fun _ opened => nomatch opened⟩

theorem exec_keepsReserve {i : Instr} {s t : State} (e : exec i s = .next t) : s.keepsReserve t := by
  cases req : i.request? with
  | some x =>
    cases (exec_request req s).symm.trans e
    exact s.serve_keepsReserve _ _
  | none =>
    by_cases cold : i = .coldReset
    · subst cold
      cases e
      exact s.cold_keepsReserve _ _ _
    · exact exec_event_keepsReserve req cold e

theorem step_keepsReserve {s t : State} (e : step s = .next t) : s.keepsReserve t := by
  unfold step at e
  split at e
  · cases e
    exact .refl s
  · next rest _ =>
    have taken : s.steady (s.withPending rest) := .of_view rfl
    exact taken.keepsReserve.trans (exec_keepsReserve e)

/-- Settles O57: every command keeps both invariants of the reserve. -/
theorem stepsKeepTheReserve : Obligations.StepsKeepTheReserve :=
  ⟨fun _ _ h e => (step_keepsReserve e).activation h, fun _ _ h e => (step_keepsReserve e).targets h⟩

end Sys2Proof.Machine
end
